-- ==== Sys2Proof/Word.lean ====
section
/-! DEFINITION. The machine's two widths: bytes (the data width) and 16-bit words (addresses, register pairs,
pc, sp), 00_scope.md R7. -/
namespace Sys2Proof

/-- A byte: every memory cell, every 8-bit register (R7, R100). -/
abbrev Byte := BitVec 8

/-- A 16-bit value: addresses, `pc`, `sp`, register pairs (R7). -/
abbrev Word := BitVec 16

end Sys2Proof
end

