-- ==== Sys2Proof/Machine/Bits.lean ====
section
/-! DEFINITION. Bit-field, sign-extension and byte-order helpers (00_scope.md R9; 20_memory.md R118). -/
namespace Sys2Proof

/-- `w[15:8]`. -/
def hiByte (w : Word) : Byte := w.extractLsb' 8 8

/-- `w[7:0]`. -/
def loByte (w : Word) : Byte := w.extractLsb' 0 8

/-- `hi ++ lo` (R9): the pair whose high byte is `hi` (R10, R21, R162). -/
def pair (hi lo : Byte) : Word := hi ++ lo

/-- `sext_16(v)`: `v` if `v < 128`, else `v + 0xFF00` (R9). -/
def sext16 (v : Byte) : Word := if v.toNat < 128 then BitVec.ofNat 16 v.toNat else BitVec.ofNat 16 (v.toNat + 0xFF00)

/-- `v[i]` of a byte (R9). -/
def bit (v : Byte) (i : Nat) : Bool := v.getLsbD i

/-- A Boolean as the number 0 or 1. -/
def b2n (b : Bool) : Nat := if b then 1 else 0

/-- `v[hi:lo]` of a byte as a number, for a slice of `n` bits from bit `lo` (R9). -/
def slice (v : Byte) (lo n : Nat) : Nat := (v.toNat >>> lo) % 2 ^ n

/-- `0xFF00 + n`, the high-page address (40_load8.md R212 to R215). -/
def highPage (n : Byte) : Word := pair 0xFF#8 n

end Sys2Proof
end

