-- ==== Sys2Proof/Syntax.lean ====
section
/-! DEFINITION. The instruction set as syntax: `Instr`, one constructor per row of spec/opcode_table.json (512 rows), the
operand vocabularies of 30_encoding.md R164 to R169, and the families of constructors that one rule of the spec
describes (`Instr.ldRR`, `Instr.aluR`, ...), each a function from the operand field to the constructor of that row.
A constructor's name is the row's mnemonic in lower case with its operands; `mX` is the memory byte at the address in X. -/
namespace Sys2Proof

/-- The seven registers an `r8` field can name (R164; index 6 is the byte at HL, see `Opnd8`). -/
inductive R8 where
  | B | C | D | E | H | L | A
  deriving DecidableEq, Repr

/-- The operand of a 3-bit register field (R164): a register, or for index 6 the memory byte at HL. -/
inductive Opnd8 where
  | reg (r : R8)
  | indHL
  deriving DecidableEq, Repr

/-- The pairs of a 2-bit `r16` field (R165). -/
inductive R16 where
  | BC | DE | HL | SP
  deriving DecidableEq, Repr

/-- The pairs of a 2-bit `r16stk` field (R166). -/
inductive R16Stk where
  | BC | DE | HL | AF
  deriving DecidableEq, Repr

/-- The conditions of a 2-bit `cc` field, in the fixed order NZ, Z, NC, C (R168). -/
inductive Cond where
  | NZ | Z | NC | C
  deriving DecidableEq, Repr

/-- The eight two-operand operations `alu[y]` (R169). -/
inductive AluOp where
  | add | adc | sub | sbc | and | xor | or | cp
  deriving DecidableEq, Repr

/-- The eight rotates and shifts `rot[y]` (R169). -/
inductive RotOp where
  | rlc | rrc | rl | rr | sla | sra | swap | srl
  deriving DecidableEq, Repr

/-- A 3-bit field: `y`, `z`, a bit number, or an RST index (R160, R170). -/
inductive Oct where
  | o0 | o1 | o2 | o3 | o4 | o5 | o6 | o7
  deriving DecidableEq, Repr

/-- The number of a 3-bit field. -/
def Oct.toNat : Oct → Nat
  | .o0 => 0 | .o1 => 1 | .o2 => 2 | .o3 => 3 | .o4 => 4 | .o5 => 5 | .o6 => 6 | .o7 => 7

/-- The instructions, one constructor per row of spec/opcode_table.json. `n` is the unsigned 8-bit
immediate, `e` the signed displacement byte, `nn` the 16-bit immediate, `pad` the ignored second byte of STOP (R163). -/
inductive Instr where
  -- the rows whose encoding carries an immediate (Lean bounds the index of a constructor with fields, so they stand first)
  | ld_BC_nn (nn : Word)
  | ld_B_n (n : Byte)
  | ld_mnn_SP (nn : Word)
  | ld_C_n (n : Byte)
  | stop (pad : Byte)
  | ld_DE_nn (nn : Word)
  | ld_D_n (n : Byte)
  | jr_e (e : Byte)
  | ld_E_n (n : Byte)
  | jr_NZ_e (e : Byte)
  | ld_HL_nn (nn : Word)
  | ld_H_n (n : Byte)
  | jr_Z_e (e : Byte)
  | ld_L_n (n : Byte)
  | jr_NC_e (e : Byte)
  | ld_SP_nn (nn : Word)
  | ld_mHL_n (n : Byte)
  | jr_C_e (e : Byte)
  | ld_A_n (n : Byte)
  | jp_NZ_nn (nn : Word)
  | jp_nn (nn : Word)
  | call_NZ_nn (nn : Word)
  | add_A_n (n : Byte)
  | jp_Z_nn (nn : Word)
  | call_Z_nn (nn : Word)
  | call_nn (nn : Word)
  | adc_A_n (n : Byte)
  | jp_NC_nn (nn : Word)
  | call_NC_nn (nn : Word)
  | sub_A_n (n : Byte)
  | jp_C_nn (nn : Word)
  | call_C_nn (nn : Word)
  | sbc_A_n (n : Byte)
  | ldh_mn_A (n : Byte)
  | and_A_n (n : Byte)
  | add_SP_e (e : Byte)
  | ld_mnn_A (nn : Word)
  | xor_A_n (n : Byte)
  | ldh_A_mn (n : Byte)
  | or_A_n (n : Byte)
  | ld_HL_SPe (e : Byte)
  | ld_A_mnn (nn : Word)
  | cp_A_n (n : Byte)
  -- the other unprefixed rows
  | nop
  | ld_mBC_A
  | inc_BC
  | inc_B
  | dec_B
  | rlca
  | add_HL_BC
  | ld_A_mBC
  | dec_BC
  | inc_C
  | dec_C
  | rrca
  | ld_mDE_A
  | inc_DE
  | inc_D
  | dec_D
  | rla
  | add_HL_DE
  | ld_A_mDE
  | dec_DE
  | inc_E
  | dec_E
  | rra
  | ld_mHLinc_A
  | inc_HL
  | inc_H
  | dec_H
  | daa
  | add_HL_HL
  | ld_A_mHLinc
  | dec_HL
  | inc_L
  | dec_L
  | cpl
  | ld_mHLdec_A
  | inc_SP
  | inc_mHL
  | dec_mHL
  | scf
  | add_HL_SP
  | ld_A_mHLdec
  | dec_SP
  | inc_A
  | dec_A
  | ccf
  | ld_B_B
  | ld_B_C
  | ld_B_D
  | ld_B_E
  | ld_B_H
  | ld_B_L
  | ld_B_mHL
  | ld_B_A
  | ld_C_B
  | ld_C_C
  | ld_C_D
  | ld_C_E
  | ld_C_H
  | ld_C_L
  | ld_C_mHL
  | ld_C_A
  | ld_D_B
  | ld_D_C
  | ld_D_D
  | ld_D_E
  | ld_D_H
  | ld_D_L
  | ld_D_mHL
  | ld_D_A
  | ld_E_B
  | ld_E_C
  | ld_E_D
  | ld_E_E
  | ld_E_H
  | ld_E_L
  | ld_E_mHL
  | ld_E_A
  | ld_H_B
  | ld_H_C
  | ld_H_D
  | ld_H_E
  | ld_H_H
  | ld_H_L
  | ld_H_mHL
  | ld_H_A
  | ld_L_B
  | ld_L_C
  | ld_L_D
  | ld_L_E
  | ld_L_H
  | ld_L_L
  | ld_L_mHL
  | ld_L_A
  | ld_mHL_B
  | ld_mHL_C
  | ld_mHL_D
  | ld_mHL_E
  | ld_mHL_H
  | ld_mHL_L
  | halt
  | ld_mHL_A
  | ld_A_B
  | ld_A_C
  | ld_A_D
  | ld_A_E
  | ld_A_H
  | ld_A_L
  | ld_A_mHL
  | ld_A_A
  | add_A_B
  | add_A_C
  | add_A_D
  | add_A_E
  | add_A_H
  | add_A_L
  | add_A_mHL
  | add_A_A
  | adc_A_B
  | adc_A_C
  | adc_A_D
  | adc_A_E
  | adc_A_H
  | adc_A_L
  | adc_A_mHL
  | adc_A_A
  | sub_A_B
  | sub_A_C
  | sub_A_D
  | sub_A_E
  | sub_A_H
  | sub_A_L
  | sub_A_mHL
  | sub_A_A
  | sbc_A_B
  | sbc_A_C
  | sbc_A_D
  | sbc_A_E
  | sbc_A_H
  | sbc_A_L
  | sbc_A_mHL
  | sbc_A_A
  | and_A_B
  | and_A_C
  | and_A_D
  | and_A_E
  | and_A_H
  | and_A_L
  | and_A_mHL
  | and_A_A
  | xor_A_B
  | xor_A_C
  | xor_A_D
  | xor_A_E
  | xor_A_H
  | xor_A_L
  | xor_A_mHL
  | xor_A_A
  | or_A_B
  | or_A_C
  | or_A_D
  | or_A_E
  | or_A_H
  | or_A_L
  | or_A_mHL
  | or_A_A
  | cp_A_B
  | cp_A_C
  | cp_A_D
  | cp_A_E
  | cp_A_H
  | cp_A_L
  | cp_A_mHL
  | cp_A_A
  | ret_NZ
  | pop_BC
  | push_BC
  | rst_00
  | ret_Z
  | ret
  | prefixCB
  | rst_08
  | ret_NC
  | pop_DE
  | illegal_D3
  | push_DE
  | rst_10
  | ret_C
  | reti
  | illegal_DB
  | illegal_DD
  | rst_18
  | pop_HL
  | ldh_mC_A
  | illegal_E3
  | illegal_E4
  | push_HL
  | rst_20
  | jp_HL
  | illegal_EB
  | illegal_EC
  | illegal_ED
  | rst_28
  | pop_AF
  | ldh_A_mC
  | di
  | illegal_F4
  | push_AF
  | rst_30
  | ld_SP_HL
  | ei
  | illegal_FC
  | illegal_FD
  | rst_38
  -- the 256 rows behind the prefix byte 0xCB (R176)
  | rlc_B
  | rlc_C
  | rlc_D
  | rlc_E
  | rlc_H
  | rlc_L
  | rlc_mHL
  | rlc_A
  | rrc_B
  | rrc_C
  | rrc_D
  | rrc_E
  | rrc_H
  | rrc_L
  | rrc_mHL
  | rrc_A
  | rl_B
  | rl_C
  | rl_D
  | rl_E
  | rl_H
  | rl_L
  | rl_mHL
  | rl_A
  | rr_B
  | rr_C
  | rr_D
  | rr_E
  | rr_H
  | rr_L
  | rr_mHL
  | rr_A
  | sla_B
  | sla_C
  | sla_D
  | sla_E
  | sla_H
  | sla_L
  | sla_mHL
  | sla_A
  | sra_B
  | sra_C
  | sra_D
  | sra_E
  | sra_H
  | sra_L
  | sra_mHL
  | sra_A
  | swap_B
  | swap_C
  | swap_D
  | swap_E
  | swap_H
  | swap_L
  | swap_mHL
  | swap_A
  | srl_B
  | srl_C
  | srl_D
  | srl_E
  | srl_H
  | srl_L
  | srl_mHL
  | srl_A
  | bit_0_B
  | bit_0_C
  | bit_0_D
  | bit_0_E
  | bit_0_H
  | bit_0_L
  | bit_0_mHL
  | bit_0_A
  | bit_1_B
  | bit_1_C
  | bit_1_D
  | bit_1_E
  | bit_1_H
  | bit_1_L
  | bit_1_mHL
  | bit_1_A
  | bit_2_B
  | bit_2_C
  | bit_2_D
  | bit_2_E
  | bit_2_H
  | bit_2_L
  | bit_2_mHL
  | bit_2_A
  | bit_3_B
  | bit_3_C
  | bit_3_D
  | bit_3_E
  | bit_3_H
  | bit_3_L
  | bit_3_mHL
  | bit_3_A
  | bit_4_B
  | bit_4_C
  | bit_4_D
  | bit_4_E
  | bit_4_H
  | bit_4_L
  | bit_4_mHL
  | bit_4_A
  | bit_5_B
  | bit_5_C
  | bit_5_D
  | bit_5_E
  | bit_5_H
  | bit_5_L
  | bit_5_mHL
  | bit_5_A
  | bit_6_B
  | bit_6_C
  | bit_6_D
  | bit_6_E
  | bit_6_H
  | bit_6_L
  | bit_6_mHL
  | bit_6_A
  | bit_7_B
  | bit_7_C
  | bit_7_D
  | bit_7_E
  | bit_7_H
  | bit_7_L
  | bit_7_mHL
  | bit_7_A
  | res_0_B
  | res_0_C
  | res_0_D
  | res_0_E
  | res_0_H
  | res_0_L
  | res_0_mHL
  | res_0_A
  | res_1_B
  | res_1_C
  | res_1_D
  | res_1_E
  | res_1_H
  | res_1_L
  | res_1_mHL
  | res_1_A
  | res_2_B
  | res_2_C
  | res_2_D
  | res_2_E
  | res_2_H
  | res_2_L
  | res_2_mHL
  | res_2_A
  | res_3_B
  | res_3_C
  | res_3_D
  | res_3_E
  | res_3_H
  | res_3_L
  | res_3_mHL
  | res_3_A
  | res_4_B
  | res_4_C
  | res_4_D
  | res_4_E
  | res_4_H
  | res_4_L
  | res_4_mHL
  | res_4_A
  | res_5_B
  | res_5_C
  | res_5_D
  | res_5_E
  | res_5_H
  | res_5_L
  | res_5_mHL
  | res_5_A
  | res_6_B
  | res_6_C
  | res_6_D
  | res_6_E
  | res_6_H
  | res_6_L
  | res_6_mHL
  | res_6_A
  | res_7_B
  | res_7_C
  | res_7_D
  | res_7_E
  | res_7_H
  | res_7_L
  | res_7_mHL
  | res_7_A
  | set_0_B
  | set_0_C
  | set_0_D
  | set_0_E
  | set_0_H
  | set_0_L
  | set_0_mHL
  | set_0_A
  | set_1_B
  | set_1_C
  | set_1_D
  | set_1_E
  | set_1_H
  | set_1_L
  | set_1_mHL
  | set_1_A
  | set_2_B
  | set_2_C
  | set_2_D
  | set_2_E
  | set_2_H
  | set_2_L
  | set_2_mHL
  | set_2_A
  | set_3_B
  | set_3_C
  | set_3_D
  | set_3_E
  | set_3_H
  | set_3_L
  | set_3_mHL
  | set_3_A
  | set_4_B
  | set_4_C
  | set_4_D
  | set_4_E
  | set_4_H
  | set_4_L
  | set_4_mHL
  | set_4_A
  | set_5_B
  | set_5_C
  | set_5_D
  | set_5_E
  | set_5_H
  | set_5_L
  | set_5_mHL
  | set_5_A
  | set_6_B
  | set_6_C
  | set_6_D
  | set_6_E
  | set_6_H
  | set_6_L
  | set_6_mHL
  | set_6_A
  | set_7_B
  | set_7_C
  | set_7_D
  | set_7_E
  | set_7_H
  | set_7_L
  | set_7_mHL
  | set_7_A
  deriving DecidableEq, Repr

namespace Instr

/-- `LD r,r'` (R201): 49 rows. -/
def ldRR : R8 → R8 → Instr
  | .B, .B => .ld_B_B | .B, .C => .ld_B_C | .B, .D => .ld_B_D | .B, .E => .ld_B_E
  | .B, .H => .ld_B_H | .B, .L => .ld_B_L | .B, .A => .ld_B_A | .C, .B => .ld_C_B
  | .C, .C => .ld_C_C | .C, .D => .ld_C_D | .C, .E => .ld_C_E | .C, .H => .ld_C_H
  | .C, .L => .ld_C_L | .C, .A => .ld_C_A | .D, .B => .ld_D_B | .D, .C => .ld_D_C
  | .D, .D => .ld_D_D | .D, .E => .ld_D_E | .D, .H => .ld_D_H | .D, .L => .ld_D_L
  | .D, .A => .ld_D_A | .E, .B => .ld_E_B | .E, .C => .ld_E_C | .E, .D => .ld_E_D
  | .E, .E => .ld_E_E | .E, .H => .ld_E_H | .E, .L => .ld_E_L | .E, .A => .ld_E_A
  | .H, .B => .ld_H_B | .H, .C => .ld_H_C | .H, .D => .ld_H_D | .H, .E => .ld_H_E
  | .H, .H => .ld_H_H | .H, .L => .ld_H_L | .H, .A => .ld_H_A | .L, .B => .ld_L_B
  | .L, .C => .ld_L_C | .L, .D => .ld_L_D | .L, .E => .ld_L_E | .L, .H => .ld_L_H
  | .L, .L => .ld_L_L | .L, .A => .ld_L_A | .A, .B => .ld_A_B | .A, .C => .ld_A_C
  | .A, .D => .ld_A_D | .A, .E => .ld_A_E | .A, .H => .ld_A_H | .A, .L => .ld_A_L
  | .A, .A => .ld_A_A

/-- `LD r,n` (R202): 7 rows. -/
def ldRN (r : R8) (n : Byte) : Instr :=
  match r with
  | .B => .ld_B_n n | .C => .ld_C_n n | .D => .ld_D_n n | .E => .ld_E_n n
  | .H => .ld_H_n n | .L => .ld_L_n n | .A => .ld_A_n n

/-- `LD r,(HL)` (R203): 7 rows. -/
def ldRM : R8 → Instr
  | .B => .ld_B_mHL | .C => .ld_C_mHL | .D => .ld_D_mHL | .E => .ld_E_mHL
  | .H => .ld_H_mHL | .L => .ld_L_mHL | .A => .ld_A_mHL

/-- `LD (HL),r` (R204): 7 rows. -/
def ldMR : R8 → Instr
  | .B => .ld_mHL_B | .C => .ld_mHL_C | .D => .ld_mHL_D | .E => .ld_mHL_E
  | .H => .ld_mHL_H | .L => .ld_mHL_L | .A => .ld_mHL_A

/-- `LD rr,nn` (R231): 4 rows. -/
def ldRRnn (rr : R16) (nn : Word) : Instr :=
  match rr with
  | .BC => .ld_BC_nn nn | .DE => .ld_DE_nn nn | .HL => .ld_HL_nn nn | .SP => .ld_SP_nn nn

/-- `PUSH rr` (R235): 4 rows. -/
def pushRR : R16Stk → Instr
  | .BC => .push_BC | .DE => .push_DE | .HL => .push_HL | .AF => .push_AF

/-- `POP rr` (R236) and `POP AF` (R240): 4 rows. -/
def popRR : R16Stk → Instr
  | .BC => .pop_BC | .DE => .pop_DE | .HL => .pop_HL | .AF => .pop_AF

/-- `op A,r` (R252 to R260): 56 rows. -/
def aluR : AluOp → R8 → Instr
  | .add, .B => .add_A_B | .add, .C => .add_A_C | .add, .D => .add_A_D | .add, .E => .add_A_E
  | .add, .H => .add_A_H | .add, .L => .add_A_L | .add, .A => .add_A_A | .adc, .B => .adc_A_B
  | .adc, .C => .adc_A_C | .adc, .D => .adc_A_D | .adc, .E => .adc_A_E | .adc, .H => .adc_A_H
  | .adc, .L => .adc_A_L | .adc, .A => .adc_A_A | .sub, .B => .sub_A_B | .sub, .C => .sub_A_C
  | .sub, .D => .sub_A_D | .sub, .E => .sub_A_E | .sub, .H => .sub_A_H | .sub, .L => .sub_A_L
  | .sub, .A => .sub_A_A | .sbc, .B => .sbc_A_B | .sbc, .C => .sbc_A_C | .sbc, .D => .sbc_A_D
  | .sbc, .E => .sbc_A_E | .sbc, .H => .sbc_A_H | .sbc, .L => .sbc_A_L | .sbc, .A => .sbc_A_A
  | .and, .B => .and_A_B | .and, .C => .and_A_C | .and, .D => .and_A_D | .and, .E => .and_A_E
  | .and, .H => .and_A_H | .and, .L => .and_A_L | .and, .A => .and_A_A | .xor, .B => .xor_A_B
  | .xor, .C => .xor_A_C | .xor, .D => .xor_A_D | .xor, .E => .xor_A_E | .xor, .H => .xor_A_H
  | .xor, .L => .xor_A_L | .xor, .A => .xor_A_A | .or, .B => .or_A_B | .or, .C => .or_A_C
  | .or, .D => .or_A_D | .or, .E => .or_A_E | .or, .H => .or_A_H | .or, .L => .or_A_L
  | .or, .A => .or_A_A | .cp, .B => .cp_A_B | .cp, .C => .cp_A_C | .cp, .D => .cp_A_D
  | .cp, .E => .cp_A_E | .cp, .H => .cp_A_H | .cp, .L => .cp_A_L | .cp, .A => .cp_A_A

/-- `op A,(HL)` (R252 to R260): 8 rows. -/
def aluM : AluOp → Instr
  | .add => .add_A_mHL | .adc => .adc_A_mHL | .sub => .sub_A_mHL | .sbc => .sbc_A_mHL
  | .and => .and_A_mHL | .xor => .xor_A_mHL | .or => .or_A_mHL | .cp => .cp_A_mHL

/-- `op A,n` (R252 to R260): 8 rows. -/
def aluN (op : AluOp) (n : Byte) : Instr :=
  match op with
  | .add => .add_A_n n | .adc => .adc_A_n n | .sub => .sub_A_n n | .sbc => .sbc_A_n n
  | .and => .and_A_n n | .xor => .xor_A_n n | .or => .or_A_n n | .cp => .cp_A_n n

/-- `INC r` (R261): 7 rows. -/
def incR : R8 → Instr
  | .B => .inc_B | .C => .inc_C | .D => .inc_D | .E => .inc_E
  | .H => .inc_H | .L => .inc_L | .A => .inc_A

/-- `DEC r` (R263): 7 rows. -/
def decR : R8 → Instr
  | .B => .dec_B | .C => .dec_C | .D => .dec_D | .E => .dec_E
  | .H => .dec_H | .L => .dec_L | .A => .dec_A

/-- `ADD HL,rr` (R280): 4 rows. -/
def addHLRR : R16 → Instr
  | .BC => .add_HL_BC | .DE => .add_HL_DE | .HL => .add_HL_HL | .SP => .add_HL_SP

/-- `INC rr` (R281): 4 rows. -/
def incRR : R16 → Instr
  | .BC => .inc_BC | .DE => .inc_DE | .HL => .inc_HL | .SP => .inc_SP

/-- `DEC rr` (R282): 4 rows. -/
def decRR : R16 → Instr
  | .BC => .dec_BC | .DE => .dec_DE | .HL => .dec_HL | .SP => .dec_SP

/-- `RLC r` ... `SRL r` (R295 to R302): 56 rows. -/
def rotR : RotOp → R8 → Instr
  | .rlc, .B => .rlc_B | .rlc, .C => .rlc_C | .rlc, .D => .rlc_D | .rlc, .E => .rlc_E
  | .rlc, .H => .rlc_H | .rlc, .L => .rlc_L | .rlc, .A => .rlc_A | .rrc, .B => .rrc_B
  | .rrc, .C => .rrc_C | .rrc, .D => .rrc_D | .rrc, .E => .rrc_E | .rrc, .H => .rrc_H
  | .rrc, .L => .rrc_L | .rrc, .A => .rrc_A | .rl, .B => .rl_B | .rl, .C => .rl_C
  | .rl, .D => .rl_D | .rl, .E => .rl_E | .rl, .H => .rl_H | .rl, .L => .rl_L
  | .rl, .A => .rl_A | .rr, .B => .rr_B | .rr, .C => .rr_C | .rr, .D => .rr_D
  | .rr, .E => .rr_E | .rr, .H => .rr_H | .rr, .L => .rr_L | .rr, .A => .rr_A
  | .sla, .B => .sla_B | .sla, .C => .sla_C | .sla, .D => .sla_D | .sla, .E => .sla_E
  | .sla, .H => .sla_H | .sla, .L => .sla_L | .sla, .A => .sla_A | .sra, .B => .sra_B
  | .sra, .C => .sra_C | .sra, .D => .sra_D | .sra, .E => .sra_E | .sra, .H => .sra_H
  | .sra, .L => .sra_L | .sra, .A => .sra_A | .swap, .B => .swap_B | .swap, .C => .swap_C
  | .swap, .D => .swap_D | .swap, .E => .swap_E | .swap, .H => .swap_H | .swap, .L => .swap_L
  | .swap, .A => .swap_A | .srl, .B => .srl_B | .srl, .C => .srl_C | .srl, .D => .srl_D
  | .srl, .E => .srl_E | .srl, .H => .srl_H | .srl, .L => .srl_L | .srl, .A => .srl_A

/-- `RLC (HL)` ... `SRL (HL)` (R295 to R302): 8 rows. -/
def rotM : RotOp → Instr
  | .rlc => .rlc_mHL | .rrc => .rrc_mHL | .rl => .rl_mHL | .rr => .rr_mHL
  | .sla => .sla_mHL | .sra => .sra_mHL | .swap => .swap_mHL | .srl => .srl_mHL

/-- `BIT b,r` (R303): 56 rows. -/
def bitR : Oct → R8 → Instr
  | .o0, .B => .bit_0_B | .o0, .C => .bit_0_C | .o0, .D => .bit_0_D | .o0, .E => .bit_0_E
  | .o0, .H => .bit_0_H | .o0, .L => .bit_0_L | .o0, .A => .bit_0_A | .o1, .B => .bit_1_B
  | .o1, .C => .bit_1_C | .o1, .D => .bit_1_D | .o1, .E => .bit_1_E | .o1, .H => .bit_1_H
  | .o1, .L => .bit_1_L | .o1, .A => .bit_1_A | .o2, .B => .bit_2_B | .o2, .C => .bit_2_C
  | .o2, .D => .bit_2_D | .o2, .E => .bit_2_E | .o2, .H => .bit_2_H | .o2, .L => .bit_2_L
  | .o2, .A => .bit_2_A | .o3, .B => .bit_3_B | .o3, .C => .bit_3_C | .o3, .D => .bit_3_D
  | .o3, .E => .bit_3_E | .o3, .H => .bit_3_H | .o3, .L => .bit_3_L | .o3, .A => .bit_3_A
  | .o4, .B => .bit_4_B | .o4, .C => .bit_4_C | .o4, .D => .bit_4_D | .o4, .E => .bit_4_E
  | .o4, .H => .bit_4_H | .o4, .L => .bit_4_L | .o4, .A => .bit_4_A | .o5, .B => .bit_5_B
  | .o5, .C => .bit_5_C | .o5, .D => .bit_5_D | .o5, .E => .bit_5_E | .o5, .H => .bit_5_H
  | .o5, .L => .bit_5_L | .o5, .A => .bit_5_A | .o6, .B => .bit_6_B | .o6, .C => .bit_6_C
  | .o6, .D => .bit_6_D | .o6, .E => .bit_6_E | .o6, .H => .bit_6_H | .o6, .L => .bit_6_L
  | .o6, .A => .bit_6_A | .o7, .B => .bit_7_B | .o7, .C => .bit_7_C | .o7, .D => .bit_7_D
  | .o7, .E => .bit_7_E | .o7, .H => .bit_7_H | .o7, .L => .bit_7_L | .o7, .A => .bit_7_A

/-- `BIT b,(HL)` (R303): 8 rows. -/
def bitM : Oct → Instr
  | .o0 => .bit_0_mHL | .o1 => .bit_1_mHL | .o2 => .bit_2_mHL | .o3 => .bit_3_mHL
  | .o4 => .bit_4_mHL | .o5 => .bit_5_mHL | .o6 => .bit_6_mHL | .o7 => .bit_7_mHL

/-- `RES b,r` (R304): 56 rows. -/
def resR : Oct → R8 → Instr
  | .o0, .B => .res_0_B | .o0, .C => .res_0_C | .o0, .D => .res_0_D | .o0, .E => .res_0_E
  | .o0, .H => .res_0_H | .o0, .L => .res_0_L | .o0, .A => .res_0_A | .o1, .B => .res_1_B
  | .o1, .C => .res_1_C | .o1, .D => .res_1_D | .o1, .E => .res_1_E | .o1, .H => .res_1_H
  | .o1, .L => .res_1_L | .o1, .A => .res_1_A | .o2, .B => .res_2_B | .o2, .C => .res_2_C
  | .o2, .D => .res_2_D | .o2, .E => .res_2_E | .o2, .H => .res_2_H | .o2, .L => .res_2_L
  | .o2, .A => .res_2_A | .o3, .B => .res_3_B | .o3, .C => .res_3_C | .o3, .D => .res_3_D
  | .o3, .E => .res_3_E | .o3, .H => .res_3_H | .o3, .L => .res_3_L | .o3, .A => .res_3_A
  | .o4, .B => .res_4_B | .o4, .C => .res_4_C | .o4, .D => .res_4_D | .o4, .E => .res_4_E
  | .o4, .H => .res_4_H | .o4, .L => .res_4_L | .o4, .A => .res_4_A | .o5, .B => .res_5_B
  | .o5, .C => .res_5_C | .o5, .D => .res_5_D | .o5, .E => .res_5_E | .o5, .H => .res_5_H
  | .o5, .L => .res_5_L | .o5, .A => .res_5_A | .o6, .B => .res_6_B | .o6, .C => .res_6_C
  | .o6, .D => .res_6_D | .o6, .E => .res_6_E | .o6, .H => .res_6_H | .o6, .L => .res_6_L
  | .o6, .A => .res_6_A | .o7, .B => .res_7_B | .o7, .C => .res_7_C | .o7, .D => .res_7_D
  | .o7, .E => .res_7_E | .o7, .H => .res_7_H | .o7, .L => .res_7_L | .o7, .A => .res_7_A

/-- `RES b,(HL)` (R304): 8 rows. -/
def resM : Oct → Instr
  | .o0 => .res_0_mHL | .o1 => .res_1_mHL | .o2 => .res_2_mHL | .o3 => .res_3_mHL
  | .o4 => .res_4_mHL | .o5 => .res_5_mHL | .o6 => .res_6_mHL | .o7 => .res_7_mHL

/-- `SET b,r` (R305): 56 rows. -/
def setR : Oct → R8 → Instr
  | .o0, .B => .set_0_B | .o0, .C => .set_0_C | .o0, .D => .set_0_D | .o0, .E => .set_0_E
  | .o0, .H => .set_0_H | .o0, .L => .set_0_L | .o0, .A => .set_0_A | .o1, .B => .set_1_B
  | .o1, .C => .set_1_C | .o1, .D => .set_1_D | .o1, .E => .set_1_E | .o1, .H => .set_1_H
  | .o1, .L => .set_1_L | .o1, .A => .set_1_A | .o2, .B => .set_2_B | .o2, .C => .set_2_C
  | .o2, .D => .set_2_D | .o2, .E => .set_2_E | .o2, .H => .set_2_H | .o2, .L => .set_2_L
  | .o2, .A => .set_2_A | .o3, .B => .set_3_B | .o3, .C => .set_3_C | .o3, .D => .set_3_D
  | .o3, .E => .set_3_E | .o3, .H => .set_3_H | .o3, .L => .set_3_L | .o3, .A => .set_3_A
  | .o4, .B => .set_4_B | .o4, .C => .set_4_C | .o4, .D => .set_4_D | .o4, .E => .set_4_E
  | .o4, .H => .set_4_H | .o4, .L => .set_4_L | .o4, .A => .set_4_A | .o5, .B => .set_5_B
  | .o5, .C => .set_5_C | .o5, .D => .set_5_D | .o5, .E => .set_5_E | .o5, .H => .set_5_H
  | .o5, .L => .set_5_L | .o5, .A => .set_5_A | .o6, .B => .set_6_B | .o6, .C => .set_6_C
  | .o6, .D => .set_6_D | .o6, .E => .set_6_E | .o6, .H => .set_6_H | .o6, .L => .set_6_L
  | .o6, .A => .set_6_A | .o7, .B => .set_7_B | .o7, .C => .set_7_C | .o7, .D => .set_7_D
  | .o7, .E => .set_7_E | .o7, .H => .set_7_H | .o7, .L => .set_7_L | .o7, .A => .set_7_A

/-- `SET b,(HL)` (R305): 8 rows. -/
def setM : Oct → Instr
  | .o0 => .set_0_mHL | .o1 => .set_1_mHL | .o2 => .set_2_mHL | .o3 => .set_3_mHL
  | .o4 => .set_4_mHL | .o5 => .set_5_mHL | .o6 => .set_6_mHL | .o7 => .set_7_mHL

/-- `JP cc,nn` (R322): 4 rows. -/
def jpCC (cc : Cond) (nn : Word) : Instr :=
  match cc with
  | .NZ => .jp_NZ_nn nn | .Z => .jp_Z_nn nn | .NC => .jp_NC_nn nn | .C => .jp_C_nn nn

/-- `JR cc,e` (R325): 4 rows. -/
def jrCC (cc : Cond) (e : Byte) : Instr :=
  match cc with
  | .NZ => .jr_NZ_e e | .Z => .jr_Z_e e | .NC => .jr_NC_e e | .C => .jr_C_e e

/-- `CALL cc,nn` (R327): 4 rows. -/
def callCC (cc : Cond) (nn : Word) : Instr :=
  match cc with
  | .NZ => .call_NZ_nn nn | .Z => .call_Z_nn nn | .NC => .call_NC_nn nn | .C => .call_C_nn nn

/-- `RET cc` (R329): 4 rows. -/
def retCC : Cond → Instr
  | .NZ => .ret_NZ | .Z => .ret_Z | .NC => .ret_NC | .C => .ret_C

/-- `RST t` (R331): 8 rows, indexed by `y = op[5:3]`; the target is `y * 8`. -/
def rst : Oct → Instr
  | .o0 => .rst_00 | .o1 => .rst_08 | .o2 => .rst_10 | .o3 => .rst_18
  | .o4 => .rst_20 | .o5 => .rst_28 | .o6 => .rst_30 | .o7 => .rst_38

/-- The eleven undefined opcode rows (R177, R346). -/
def isIllegal : Instr → Bool
  | .illegal_D3 | .illegal_DB | .illegal_DD | .illegal_E3 | .illegal_E4 | .illegal_EB
  | .illegal_EC | .illegal_ED | .illegal_F4 | .illegal_FC | .illegal_FD => true
  | _ => false

end Instr

end Sys2Proof
end

