-- ==== Sys2Proof/WellFormed.lean ====
section
/-! DEFINITION. Which terms of `Instr` are whole instructions. Every immediate is a bit vector of the encoding's own
width and every value of it is legal (30_encoding.md R170, R171 to R176), so the types already shut out every
ill-formed operand; what is left is the prefix byte 0xCB alone, which is a row of the opcode table but "is not an
instruction by itself" (R178). -/
namespace Sys2Proof

/-- A term is well formed when it is a whole instruction: every row but the lone prefix byte (R178, R182). -/
def Instr.wellFormed : Instr → Bool
  | .prefixCB => false
  | _ => true

end Sys2Proof
end

