-- ==== Sys2Proof/Decode.lean ====
section
/-! DEFINITION. The decoder and the encoder (30_encoding.md). `decodeInstr` follows the spec's maps by the fields
x, y, z, p, q (R171 to R176); `decode` reads a byte list, is total, and rejects by name. `encode` is written from the
opcode values of the encoding tables, not from the decoder. `decodeTableWord` is the host's entry. -/
namespace Sys2Proof

/-! ## Fields (R160) and operand tables (R164 to R169) -/

/-- A 3-bit number as a field. -/
def octOf : Nat → Oct
  | 0 => .o0 | 1 => .o1 | 2 => .o2 | 3 => .o3 | 4 => .o4 | 5 => .o5 | 6 => .o6 | _ => .o7

/-- `x = op[7:6]` (R160). -/
def opX (op : Byte) : Nat := op.toNat / 64
/-- `y = op[5:3]` (R160). -/
def opY (op : Byte) : Oct := octOf (op.toNat / 8 % 8)
/-- `z = op[2:0]` (R160). -/
def opZ (op : Byte) : Oct := octOf (op.toNat % 8)

/-- `r8[i]` (R164). -/
def r8 : Oct → Opnd8
  | .o0 => .reg .B | .o1 => .reg .C | .o2 => .reg .D | .o3 => .reg .E
  | .o4 => .reg .H | .o5 => .reg .L | .o6 => .indHL  | .o7 => .reg .A

/-- `r16[p]` (R165), with `p = y[2:1]`. -/
def r16 : Oct → R16
  | .o0 | .o1 => .BC | .o2 | .o3 => .DE | .o4 | .o5 => .HL | .o6 | .o7 => .SP

/-- `r16stk[p]` (R166), with `p = y[2:1]`. -/
def r16stk : Oct → R16Stk
  | .o0 | .o1 => .BC | .o2 | .o3 => .DE | .o4 | .o5 => .HL | .o6 | .o7 => .AF

/-- `cc[i]` (R168) for `i = y[1:0]`: `y` in 0..3 for JP, CALL, RET and `y - 4` for JR (R325). -/
def ccOf : Oct → Cond
  | .o0 | .o4 => .NZ | .o1 | .o5 => .Z | .o2 | .o6 => .NC | .o3 | .o7 => .C

/-- `alu[y]` (R169). -/
def aluOf : Oct → AluOp
  | .o0 => .add | .o1 => .adc | .o2 => .sub | .o3 => .sbc | .o4 => .and | .o5 => .xor | .o6 => .or | .o7 => .cp

/-- `rot[y]` (R169). -/
def rotOf : Oct → RotOp
  | .o0 => .rlc | .o1 => .rrc | .o2 => .rl | .o3 => .rr | .o4 => .sla | .o5 => .sra | .o6 => .swap | .o7 => .srl

/-! ## The opcode map -/

/-- Group `x = 0` (R171). `n` is the byte after the opcode, `nn` the two bytes after it. -/
def decodeX0 (y z : Oct) (n : Byte) (nn : Word) : Instr :=
  match z with
  | .o0 =>
    match y with
    | .o0 => .nop
    | .o1 => .ld_mnn_SP nn
    | .o2 => .stop n
    | .o3 => .jr_e n
    | y => .jrCC (ccOf y) n
  | .o1 =>
    match y with
    | .o0 | .o2 | .o4 | .o6 => .ldRRnn (r16 y) nn
    | y => .addHLRR (r16 y)
  | .o2 =>
    match y with
    | .o0 => .ld_mBC_A
    | .o2 => .ld_mDE_A
    | .o4 => .ld_mHLinc_A
    | .o6 => .ld_mHLdec_A
    | .o1 => .ld_A_mBC
    | .o3 => .ld_A_mDE
    | .o5 => .ld_A_mHLinc
    | .o7 => .ld_A_mHLdec
  | .o3 =>
    match y with
    | .o0 | .o2 | .o4 | .o6 => .incRR (r16 y)
    | y => .decRR (r16 y)
  | .o4 =>
    match r8 y with
    | .reg r => .incR r
    | .indHL => .inc_mHL
  | .o5 =>
    match r8 y with
    | .reg r => .decR r
    | .indHL => .dec_mHL
  | .o6 =>
    match r8 y with
    | .reg r => .ldRN r n
    | .indHL => .ld_mHL_n n
  | .o7 =>
    match y with
    | .o0 => .rlca
    | .o1 => .rrca
    | .o2 => .rla
    | .o3 => .rra
    | .o4 => .daa
    | .o5 => .cpl
    | .o6 => .scf
    | .o7 => .ccf

/-- Group `x = 1` (R172): `LD r8[y],r8[z]`, except 0x76, HALT. -/
def decodeX1 (y z : Oct) : Instr :=
  match r8 y, r8 z with
  | .reg d, .reg s => .ldRR d s
  | .reg d, .indHL => .ldRM d
  | .indHL, .reg s => .ldMR s
  | .indHL, .indHL => .halt

/-- Group `x = 2` (R173): `alu[y] A,r8[z]`. -/
def decodeX2 (y z : Oct) : Instr :=
  match r8 z with
  | .reg r => .aluR (aluOf y) r
  | .indHL => .aluM (aluOf y)

/-- The prefixed map (R176): the instruction that the byte `op2` after 0xCB selects. All 256 values are defined. -/
def decodePrefixed (op2 : Byte) : Instr :=
  match opX op2, r8 (opZ op2) with
  | 0, .reg r => .rotR (rotOf (opY op2)) r
  | 0, .indHL => .rotM (rotOf (opY op2))
  | 1, .reg r => .bitR (opY op2) r
  | 1, .indHL => .bitM (opY op2)
  | 2, .reg r => .resR (opY op2) r
  | 2, .indHL => .resM (opY op2)
  | _, .reg r => .setR (opY op2) r
  | _, .indHL => .setM (opY op2)

/-- Group `x = 3` (R174). For the prefix byte (`y = 1, z = 3`) the byte after the opcode is `op2` (R176). -/
def decodeX3 (y z : Oct) (n : Byte) (nn : Word) : Instr :=
  match z with
  | .o0 =>
    match y with
    | .o4 => .ldh_mn_A n
    | .o5 => .add_SP_e n
    | .o6 => .ldh_A_mn n
    | .o7 => .ld_HL_SPe n
    | y => .retCC (ccOf y)
  | .o1 =>
    match y with
    | .o0 | .o2 | .o4 | .o6 => .popRR (r16stk y)
    | .o1 => .ret
    | .o3 => .reti
    | .o5 => .jp_HL
    | .o7 => .ld_SP_HL
  | .o2 =>
    match y with
    | .o4 => .ldh_mC_A
    | .o5 => .ld_mnn_A nn
    | .o6 => .ldh_A_mC
    | .o7 => .ld_A_mnn nn
    | y => .jpCC (ccOf y) nn
  | .o3 =>
    match y with
    | .o0 => .jp_nn nn
    | .o1 => decodePrefixed n
    | .o2 => .illegal_D3
    | .o3 => .illegal_DB
    | .o4 => .illegal_E3
    | .o5 => .illegal_EB
    | .o6 => .di
    | .o7 => .ei
  | .o4 =>
    match y with
    | .o4 => .illegal_E4
    | .o5 => .illegal_EC
    | .o6 => .illegal_F4
    | .o7 => .illegal_FC
    | y => .callCC (ccOf y) nn
  | .o5 =>
    match y with
    | .o0 | .o2 | .o4 | .o6 => .pushRR (r16stk y)
    | .o1 => .call_nn nn
    | .o3 => .illegal_DD
    | .o5 => .illegal_ED
    | .o7 => .illegal_FD
  | .o6 => .aluN (aluOf y) n
  | .o7 => .rst y

/-- The instruction of an opcode byte and the two bytes after it, of which it uses what its format has (R160, R163). -/
def decodeInstr (op n1 n2 : Byte) : Instr :=
  match opX op with
  | 0 => decodeX0 (opY op) (opZ op) n1 (pair n2 n1)
  | 1 => decodeX1 (opY op) (opZ op)
  | 2 => decodeX2 (opY op) (opZ op)
  | _ => decodeX3 (opY op) (opZ op) n1 (pair n2 n1)

/-- The opcodes of format F3 (R179). -/
def length3Opcodes : List Nat :=
  [0x01, 0x08, 0x11, 0x21, 0x31, 0xC2, 0xC3, 0xC4, 0xCA, 0xCC, 0xCD, 0xD2, 0xD4, 0xDA, 0xDC, 0xEA, 0xFA]

/-- The opcodes of formats F2n, F2e, F2p and FCB (R179). -/
def length2Opcodes : List Nat :=
  [0x06, 0x0E, 0x16, 0x1E, 0x26, 0x2E, 0x36, 0x3E, 0x10, 0x18, 0x20, 0x28, 0x30, 0x38] ++
  [0xC6, 0xCE, 0xD6, 0xDE, 0xE6, 0xEE, 0xF6, 0xFE, 0xE0, 0xF0, 0xE8, 0xF8, 0xCB]

/-- The length in bytes of the instruction an opcode begins (R179). -/
def opLength (op : Byte) : Nat :=
  if length3Opcodes.contains op.toNat then 3 else if length2Opcodes.contains op.toNat then 2 else 1

/-- Why a byte list is not the beginning of an instruction. -/
inductive DecodeError where
  /-- There is no opcode byte. Safe: no instruction is read. -/
  | noOpcode
  /-- The list ends before the operand bytes that the format of `op` has (R163). Safe: no instruction is read. -/
  | missingOperand (op : Byte)
  deriving DecidableEq, Repr

/-- The decoder on a byte list: the instruction and the bytes after it. The prefix byte alone is the row PREFIX CB,
the page switch of R178 and R182 (log entry 6). -/
def decode : List Byte → Except DecodeError (Instr × List Byte)
  | [] => .error .noOpcode
  | op :: rest =>
    match opLength op, rest with
    | 1, rest => .ok (decodeInstr op 0 0, rest)
    | 2, n1 :: rest => .ok (decodeInstr op n1 0, rest)
    | 3, n1 :: n2 :: rest => .ok (decodeInstr op n1 n2, rest)
    | _, rest => if op = 0xCB#8 then .ok (.prefixCB, rest) else .error (.missingOperand op)

/-! ## The encoder -/

/-- A 16-bit immediate in the instruction stream: low byte first (R118, R162). -/
def le16 (nn : Word) : List Byte := [loByte nn, hiByte nn]

/-- The bytes of an instruction, from the opcode values of R171 to R176 (spec/opcode_table.json, `encoding`). -/
def encode : Instr → List Byte
  | .nop => [0x00#8]
  | .ld_BC_nn nn => 0x01#8 :: le16 nn
  | .ld_mBC_A => [0x02#8]
  | .inc_BC => [0x03#8]
  | .inc_B => [0x04#8]
  | .dec_B => [0x05#8]
  | .ld_B_n n => [0x06#8, n]
  | .rlca => [0x07#8]
  | .ld_mnn_SP nn => 0x08#8 :: le16 nn
  | .add_HL_BC => [0x09#8]
  | .ld_A_mBC => [0x0A#8]
  | .dec_BC => [0x0B#8]
  | .inc_C => [0x0C#8]
  | .dec_C => [0x0D#8]
  | .ld_C_n n => [0x0E#8, n]
  | .rrca => [0x0F#8]
  | .stop pad => [0x10#8, pad]
  | .ld_DE_nn nn => 0x11#8 :: le16 nn
  | .ld_mDE_A => [0x12#8]
  | .inc_DE => [0x13#8]
  | .inc_D => [0x14#8]
  | .dec_D => [0x15#8]
  | .ld_D_n n => [0x16#8, n]
  | .rla => [0x17#8]
  | .jr_e e => [0x18#8, e]
  | .add_HL_DE => [0x19#8]
  | .ld_A_mDE => [0x1A#8]
  | .dec_DE => [0x1B#8]
  | .inc_E => [0x1C#8]
  | .dec_E => [0x1D#8]
  | .ld_E_n n => [0x1E#8, n]
  | .rra => [0x1F#8]
  | .jr_NZ_e e => [0x20#8, e]
  | .ld_HL_nn nn => 0x21#8 :: le16 nn
  | .ld_mHLinc_A => [0x22#8]
  | .inc_HL => [0x23#8]
  | .inc_H => [0x24#8]
  | .dec_H => [0x25#8]
  | .ld_H_n n => [0x26#8, n]
  | .daa => [0x27#8]
  | .jr_Z_e e => [0x28#8, e]
  | .add_HL_HL => [0x29#8]
  | .ld_A_mHLinc => [0x2A#8]
  | .dec_HL => [0x2B#8]
  | .inc_L => [0x2C#8]
  | .dec_L => [0x2D#8]
  | .ld_L_n n => [0x2E#8, n]
  | .cpl => [0x2F#8]
  | .jr_NC_e e => [0x30#8, e]
  | .ld_SP_nn nn => 0x31#8 :: le16 nn
  | .ld_mHLdec_A => [0x32#8]
  | .inc_SP => [0x33#8]
  | .inc_mHL => [0x34#8]
  | .dec_mHL => [0x35#8]
  | .ld_mHL_n n => [0x36#8, n]
  | .scf => [0x37#8]
  | .jr_C_e e => [0x38#8, e]
  | .add_HL_SP => [0x39#8]
  | .ld_A_mHLdec => [0x3A#8]
  | .dec_SP => [0x3B#8]
  | .inc_A => [0x3C#8]
  | .dec_A => [0x3D#8]
  | .ld_A_n n => [0x3E#8, n]
  | .ccf => [0x3F#8]
  | .ld_B_B => [0x40#8]
  | .ld_B_C => [0x41#8]
  | .ld_B_D => [0x42#8]
  | .ld_B_E => [0x43#8]
  | .ld_B_H => [0x44#8]
  | .ld_B_L => [0x45#8]
  | .ld_B_mHL => [0x46#8]
  | .ld_B_A => [0x47#8]
  | .ld_C_B => [0x48#8]
  | .ld_C_C => [0x49#8]
  | .ld_C_D => [0x4A#8]
  | .ld_C_E => [0x4B#8]
  | .ld_C_H => [0x4C#8]
  | .ld_C_L => [0x4D#8]
  | .ld_C_mHL => [0x4E#8]
  | .ld_C_A => [0x4F#8]
  | .ld_D_B => [0x50#8]
  | .ld_D_C => [0x51#8]
  | .ld_D_D => [0x52#8]
  | .ld_D_E => [0x53#8]
  | .ld_D_H => [0x54#8]
  | .ld_D_L => [0x55#8]
  | .ld_D_mHL => [0x56#8]
  | .ld_D_A => [0x57#8]
  | .ld_E_B => [0x58#8]
  | .ld_E_C => [0x59#8]
  | .ld_E_D => [0x5A#8]
  | .ld_E_E => [0x5B#8]
  | .ld_E_H => [0x5C#8]
  | .ld_E_L => [0x5D#8]
  | .ld_E_mHL => [0x5E#8]
  | .ld_E_A => [0x5F#8]
  | .ld_H_B => [0x60#8]
  | .ld_H_C => [0x61#8]
  | .ld_H_D => [0x62#8]
  | .ld_H_E => [0x63#8]
  | .ld_H_H => [0x64#8]
  | .ld_H_L => [0x65#8]
  | .ld_H_mHL => [0x66#8]
  | .ld_H_A => [0x67#8]
  | .ld_L_B => [0x68#8]
  | .ld_L_C => [0x69#8]
  | .ld_L_D => [0x6A#8]
  | .ld_L_E => [0x6B#8]
  | .ld_L_H => [0x6C#8]
  | .ld_L_L => [0x6D#8]
  | .ld_L_mHL => [0x6E#8]
  | .ld_L_A => [0x6F#8]
  | .ld_mHL_B => [0x70#8]
  | .ld_mHL_C => [0x71#8]
  | .ld_mHL_D => [0x72#8]
  | .ld_mHL_E => [0x73#8]
  | .ld_mHL_H => [0x74#8]
  | .ld_mHL_L => [0x75#8]
  | .halt => [0x76#8]
  | .ld_mHL_A => [0x77#8]
  | .ld_A_B => [0x78#8]
  | .ld_A_C => [0x79#8]
  | .ld_A_D => [0x7A#8]
  | .ld_A_E => [0x7B#8]
  | .ld_A_H => [0x7C#8]
  | .ld_A_L => [0x7D#8]
  | .ld_A_mHL => [0x7E#8]
  | .ld_A_A => [0x7F#8]
  | .add_A_B => [0x80#8]
  | .add_A_C => [0x81#8]
  | .add_A_D => [0x82#8]
  | .add_A_E => [0x83#8]
  | .add_A_H => [0x84#8]
  | .add_A_L => [0x85#8]
  | .add_A_mHL => [0x86#8]
  | .add_A_A => [0x87#8]
  | .adc_A_B => [0x88#8]
  | .adc_A_C => [0x89#8]
  | .adc_A_D => [0x8A#8]
  | .adc_A_E => [0x8B#8]
  | .adc_A_H => [0x8C#8]
  | .adc_A_L => [0x8D#8]
  | .adc_A_mHL => [0x8E#8]
  | .adc_A_A => [0x8F#8]
  | .sub_A_B => [0x90#8]
  | .sub_A_C => [0x91#8]
  | .sub_A_D => [0x92#8]
  | .sub_A_E => [0x93#8]
  | .sub_A_H => [0x94#8]
  | .sub_A_L => [0x95#8]
  | .sub_A_mHL => [0x96#8]
  | .sub_A_A => [0x97#8]
  | .sbc_A_B => [0x98#8]
  | .sbc_A_C => [0x99#8]
  | .sbc_A_D => [0x9A#8]
  | .sbc_A_E => [0x9B#8]
  | .sbc_A_H => [0x9C#8]
  | .sbc_A_L => [0x9D#8]
  | .sbc_A_mHL => [0x9E#8]
  | .sbc_A_A => [0x9F#8]
  | .and_A_B => [0xA0#8]
  | .and_A_C => [0xA1#8]
  | .and_A_D => [0xA2#8]
  | .and_A_E => [0xA3#8]
  | .and_A_H => [0xA4#8]
  | .and_A_L => [0xA5#8]
  | .and_A_mHL => [0xA6#8]
  | .and_A_A => [0xA7#8]
  | .xor_A_B => [0xA8#8]
  | .xor_A_C => [0xA9#8]
  | .xor_A_D => [0xAA#8]
  | .xor_A_E => [0xAB#8]
  | .xor_A_H => [0xAC#8]
  | .xor_A_L => [0xAD#8]
  | .xor_A_mHL => [0xAE#8]
  | .xor_A_A => [0xAF#8]
  | .or_A_B => [0xB0#8]
  | .or_A_C => [0xB1#8]
  | .or_A_D => [0xB2#8]
  | .or_A_E => [0xB3#8]
  | .or_A_H => [0xB4#8]
  | .or_A_L => [0xB5#8]
  | .or_A_mHL => [0xB6#8]
  | .or_A_A => [0xB7#8]
  | .cp_A_B => [0xB8#8]
  | .cp_A_C => [0xB9#8]
  | .cp_A_D => [0xBA#8]
  | .cp_A_E => [0xBB#8]
  | .cp_A_H => [0xBC#8]
  | .cp_A_L => [0xBD#8]
  | .cp_A_mHL => [0xBE#8]
  | .cp_A_A => [0xBF#8]
  | .ret_NZ => [0xC0#8]
  | .pop_BC => [0xC1#8]
  | .jp_NZ_nn nn => 0xC2#8 :: le16 nn
  | .jp_nn nn => 0xC3#8 :: le16 nn
  | .call_NZ_nn nn => 0xC4#8 :: le16 nn
  | .push_BC => [0xC5#8]
  | .add_A_n n => [0xC6#8, n]
  | .rst_00 => [0xC7#8]
  | .ret_Z => [0xC8#8]
  | .ret => [0xC9#8]
  | .jp_Z_nn nn => 0xCA#8 :: le16 nn
  | .prefixCB => [0xCB#8]
  | .call_Z_nn nn => 0xCC#8 :: le16 nn
  | .call_nn nn => 0xCD#8 :: le16 nn
  | .adc_A_n n => [0xCE#8, n]
  | .rst_08 => [0xCF#8]
  | .ret_NC => [0xD0#8]
  | .pop_DE => [0xD1#8]
  | .jp_NC_nn nn => 0xD2#8 :: le16 nn
  | .illegal_D3 => [0xD3#8]
  | .call_NC_nn nn => 0xD4#8 :: le16 nn
  | .push_DE => [0xD5#8]
  | .sub_A_n n => [0xD6#8, n]
  | .rst_10 => [0xD7#8]
  | .ret_C => [0xD8#8]
  | .reti => [0xD9#8]
  | .jp_C_nn nn => 0xDA#8 :: le16 nn
  | .illegal_DB => [0xDB#8]
  | .call_C_nn nn => 0xDC#8 :: le16 nn
  | .illegal_DD => [0xDD#8]
  | .sbc_A_n n => [0xDE#8, n]
  | .rst_18 => [0xDF#8]
  | .ldh_mn_A n => [0xE0#8, n]
  | .pop_HL => [0xE1#8]
  | .ldh_mC_A => [0xE2#8]
  | .illegal_E3 => [0xE3#8]
  | .illegal_E4 => [0xE4#8]
  | .push_HL => [0xE5#8]
  | .and_A_n n => [0xE6#8, n]
  | .rst_20 => [0xE7#8]
  | .add_SP_e e => [0xE8#8, e]
  | .jp_HL => [0xE9#8]
  | .ld_mnn_A nn => 0xEA#8 :: le16 nn
  | .illegal_EB => [0xEB#8]
  | .illegal_EC => [0xEC#8]
  | .illegal_ED => [0xED#8]
  | .xor_A_n n => [0xEE#8, n]
  | .rst_28 => [0xEF#8]
  | .ldh_A_mn n => [0xF0#8, n]
  | .pop_AF => [0xF1#8]
  | .ldh_A_mC => [0xF2#8]
  | .di => [0xF3#8]
  | .illegal_F4 => [0xF4#8]
  | .push_AF => [0xF5#8]
  | .or_A_n n => [0xF6#8, n]
  | .rst_30 => [0xF7#8]
  | .ld_HL_SPe e => [0xF8#8, e]
  | .ld_SP_HL => [0xF9#8]
  | .ld_A_mnn nn => 0xFA#8 :: le16 nn
  | .ei => [0xFB#8]
  | .illegal_FC => [0xFC#8]
  | .illegal_FD => [0xFD#8]
  | .cp_A_n n => [0xFE#8, n]
  | .rst_38 => [0xFF#8]
  | .rlc_B => [0xCB#8, 0x00#8]
  | .rlc_C => [0xCB#8, 0x01#8]
  | .rlc_D => [0xCB#8, 0x02#8]
  | .rlc_E => [0xCB#8, 0x03#8]
  | .rlc_H => [0xCB#8, 0x04#8]
  | .rlc_L => [0xCB#8, 0x05#8]
  | .rlc_mHL => [0xCB#8, 0x06#8]
  | .rlc_A => [0xCB#8, 0x07#8]
  | .rrc_B => [0xCB#8, 0x08#8]
  | .rrc_C => [0xCB#8, 0x09#8]
  | .rrc_D => [0xCB#8, 0x0A#8]
  | .rrc_E => [0xCB#8, 0x0B#8]
  | .rrc_H => [0xCB#8, 0x0C#8]
  | .rrc_L => [0xCB#8, 0x0D#8]
  | .rrc_mHL => [0xCB#8, 0x0E#8]
  | .rrc_A => [0xCB#8, 0x0F#8]
  | .rl_B => [0xCB#8, 0x10#8]
  | .rl_C => [0xCB#8, 0x11#8]
  | .rl_D => [0xCB#8, 0x12#8]
  | .rl_E => [0xCB#8, 0x13#8]
  | .rl_H => [0xCB#8, 0x14#8]
  | .rl_L => [0xCB#8, 0x15#8]
  | .rl_mHL => [0xCB#8, 0x16#8]
  | .rl_A => [0xCB#8, 0x17#8]
  | .rr_B => [0xCB#8, 0x18#8]
  | .rr_C => [0xCB#8, 0x19#8]
  | .rr_D => [0xCB#8, 0x1A#8]
  | .rr_E => [0xCB#8, 0x1B#8]
  | .rr_H => [0xCB#8, 0x1C#8]
  | .rr_L => [0xCB#8, 0x1D#8]
  | .rr_mHL => [0xCB#8, 0x1E#8]
  | .rr_A => [0xCB#8, 0x1F#8]
  | .sla_B => [0xCB#8, 0x20#8]
  | .sla_C => [0xCB#8, 0x21#8]
  | .sla_D => [0xCB#8, 0x22#8]
  | .sla_E => [0xCB#8, 0x23#8]
  | .sla_H => [0xCB#8, 0x24#8]
  | .sla_L => [0xCB#8, 0x25#8]
  | .sla_mHL => [0xCB#8, 0x26#8]
  | .sla_A => [0xCB#8, 0x27#8]
  | .sra_B => [0xCB#8, 0x28#8]
  | .sra_C => [0xCB#8, 0x29#8]
  | .sra_D => [0xCB#8, 0x2A#8]
  | .sra_E => [0xCB#8, 0x2B#8]
  | .sra_H => [0xCB#8, 0x2C#8]
  | .sra_L => [0xCB#8, 0x2D#8]
  | .sra_mHL => [0xCB#8, 0x2E#8]
  | .sra_A => [0xCB#8, 0x2F#8]
  | .swap_B => [0xCB#8, 0x30#8]
  | .swap_C => [0xCB#8, 0x31#8]
  | .swap_D => [0xCB#8, 0x32#8]
  | .swap_E => [0xCB#8, 0x33#8]
  | .swap_H => [0xCB#8, 0x34#8]
  | .swap_L => [0xCB#8, 0x35#8]
  | .swap_mHL => [0xCB#8, 0x36#8]
  | .swap_A => [0xCB#8, 0x37#8]
  | .srl_B => [0xCB#8, 0x38#8]
  | .srl_C => [0xCB#8, 0x39#8]
  | .srl_D => [0xCB#8, 0x3A#8]
  | .srl_E => [0xCB#8, 0x3B#8]
  | .srl_H => [0xCB#8, 0x3C#8]
  | .srl_L => [0xCB#8, 0x3D#8]
  | .srl_mHL => [0xCB#8, 0x3E#8]
  | .srl_A => [0xCB#8, 0x3F#8]
  | .bit_0_B => [0xCB#8, 0x40#8]
  | .bit_0_C => [0xCB#8, 0x41#8]
  | .bit_0_D => [0xCB#8, 0x42#8]
  | .bit_0_E => [0xCB#8, 0x43#8]
  | .bit_0_H => [0xCB#8, 0x44#8]
  | .bit_0_L => [0xCB#8, 0x45#8]
  | .bit_0_mHL => [0xCB#8, 0x46#8]
  | .bit_0_A => [0xCB#8, 0x47#8]
  | .bit_1_B => [0xCB#8, 0x48#8]
  | .bit_1_C => [0xCB#8, 0x49#8]
  | .bit_1_D => [0xCB#8, 0x4A#8]
  | .bit_1_E => [0xCB#8, 0x4B#8]
  | .bit_1_H => [0xCB#8, 0x4C#8]
  | .bit_1_L => [0xCB#8, 0x4D#8]
  | .bit_1_mHL => [0xCB#8, 0x4E#8]
  | .bit_1_A => [0xCB#8, 0x4F#8]
  | .bit_2_B => [0xCB#8, 0x50#8]
  | .bit_2_C => [0xCB#8, 0x51#8]
  | .bit_2_D => [0xCB#8, 0x52#8]
  | .bit_2_E => [0xCB#8, 0x53#8]
  | .bit_2_H => [0xCB#8, 0x54#8]
  | .bit_2_L => [0xCB#8, 0x55#8]
  | .bit_2_mHL => [0xCB#8, 0x56#8]
  | .bit_2_A => [0xCB#8, 0x57#8]
  | .bit_3_B => [0xCB#8, 0x58#8]
  | .bit_3_C => [0xCB#8, 0x59#8]
  | .bit_3_D => [0xCB#8, 0x5A#8]
  | .bit_3_E => [0xCB#8, 0x5B#8]
  | .bit_3_H => [0xCB#8, 0x5C#8]
  | .bit_3_L => [0xCB#8, 0x5D#8]
  | .bit_3_mHL => [0xCB#8, 0x5E#8]
  | .bit_3_A => [0xCB#8, 0x5F#8]
  | .bit_4_B => [0xCB#8, 0x60#8]
  | .bit_4_C => [0xCB#8, 0x61#8]
  | .bit_4_D => [0xCB#8, 0x62#8]
  | .bit_4_E => [0xCB#8, 0x63#8]
  | .bit_4_H => [0xCB#8, 0x64#8]
  | .bit_4_L => [0xCB#8, 0x65#8]
  | .bit_4_mHL => [0xCB#8, 0x66#8]
  | .bit_4_A => [0xCB#8, 0x67#8]
  | .bit_5_B => [0xCB#8, 0x68#8]
  | .bit_5_C => [0xCB#8, 0x69#8]
  | .bit_5_D => [0xCB#8, 0x6A#8]
  | .bit_5_E => [0xCB#8, 0x6B#8]
  | .bit_5_H => [0xCB#8, 0x6C#8]
  | .bit_5_L => [0xCB#8, 0x6D#8]
  | .bit_5_mHL => [0xCB#8, 0x6E#8]
  | .bit_5_A => [0xCB#8, 0x6F#8]
  | .bit_6_B => [0xCB#8, 0x70#8]
  | .bit_6_C => [0xCB#8, 0x71#8]
  | .bit_6_D => [0xCB#8, 0x72#8]
  | .bit_6_E => [0xCB#8, 0x73#8]
  | .bit_6_H => [0xCB#8, 0x74#8]
  | .bit_6_L => [0xCB#8, 0x75#8]
  | .bit_6_mHL => [0xCB#8, 0x76#8]
  | .bit_6_A => [0xCB#8, 0x77#8]
  | .bit_7_B => [0xCB#8, 0x78#8]
  | .bit_7_C => [0xCB#8, 0x79#8]
  | .bit_7_D => [0xCB#8, 0x7A#8]
  | .bit_7_E => [0xCB#8, 0x7B#8]
  | .bit_7_H => [0xCB#8, 0x7C#8]
  | .bit_7_L => [0xCB#8, 0x7D#8]
  | .bit_7_mHL => [0xCB#8, 0x7E#8]
  | .bit_7_A => [0xCB#8, 0x7F#8]
  | .res_0_B => [0xCB#8, 0x80#8]
  | .res_0_C => [0xCB#8, 0x81#8]
  | .res_0_D => [0xCB#8, 0x82#8]
  | .res_0_E => [0xCB#8, 0x83#8]
  | .res_0_H => [0xCB#8, 0x84#8]
  | .res_0_L => [0xCB#8, 0x85#8]
  | .res_0_mHL => [0xCB#8, 0x86#8]
  | .res_0_A => [0xCB#8, 0x87#8]
  | .res_1_B => [0xCB#8, 0x88#8]
  | .res_1_C => [0xCB#8, 0x89#8]
  | .res_1_D => [0xCB#8, 0x8A#8]
  | .res_1_E => [0xCB#8, 0x8B#8]
  | .res_1_H => [0xCB#8, 0x8C#8]
  | .res_1_L => [0xCB#8, 0x8D#8]
  | .res_1_mHL => [0xCB#8, 0x8E#8]
  | .res_1_A => [0xCB#8, 0x8F#8]
  | .res_2_B => [0xCB#8, 0x90#8]
  | .res_2_C => [0xCB#8, 0x91#8]
  | .res_2_D => [0xCB#8, 0x92#8]
  | .res_2_E => [0xCB#8, 0x93#8]
  | .res_2_H => [0xCB#8, 0x94#8]
  | .res_2_L => [0xCB#8, 0x95#8]
  | .res_2_mHL => [0xCB#8, 0x96#8]
  | .res_2_A => [0xCB#8, 0x97#8]
  | .res_3_B => [0xCB#8, 0x98#8]
  | .res_3_C => [0xCB#8, 0x99#8]
  | .res_3_D => [0xCB#8, 0x9A#8]
  | .res_3_E => [0xCB#8, 0x9B#8]
  | .res_3_H => [0xCB#8, 0x9C#8]
  | .res_3_L => [0xCB#8, 0x9D#8]
  | .res_3_mHL => [0xCB#8, 0x9E#8]
  | .res_3_A => [0xCB#8, 0x9F#8]
  | .res_4_B => [0xCB#8, 0xA0#8]
  | .res_4_C => [0xCB#8, 0xA1#8]
  | .res_4_D => [0xCB#8, 0xA2#8]
  | .res_4_E => [0xCB#8, 0xA3#8]
  | .res_4_H => [0xCB#8, 0xA4#8]
  | .res_4_L => [0xCB#8, 0xA5#8]
  | .res_4_mHL => [0xCB#8, 0xA6#8]
  | .res_4_A => [0xCB#8, 0xA7#8]
  | .res_5_B => [0xCB#8, 0xA8#8]
  | .res_5_C => [0xCB#8, 0xA9#8]
  | .res_5_D => [0xCB#8, 0xAA#8]
  | .res_5_E => [0xCB#8, 0xAB#8]
  | .res_5_H => [0xCB#8, 0xAC#8]
  | .res_5_L => [0xCB#8, 0xAD#8]
  | .res_5_mHL => [0xCB#8, 0xAE#8]
  | .res_5_A => [0xCB#8, 0xAF#8]
  | .res_6_B => [0xCB#8, 0xB0#8]
  | .res_6_C => [0xCB#8, 0xB1#8]
  | .res_6_D => [0xCB#8, 0xB2#8]
  | .res_6_E => [0xCB#8, 0xB3#8]
  | .res_6_H => [0xCB#8, 0xB4#8]
  | .res_6_L => [0xCB#8, 0xB5#8]
  | .res_6_mHL => [0xCB#8, 0xB6#8]
  | .res_6_A => [0xCB#8, 0xB7#8]
  | .res_7_B => [0xCB#8, 0xB8#8]
  | .res_7_C => [0xCB#8, 0xB9#8]
  | .res_7_D => [0xCB#8, 0xBA#8]
  | .res_7_E => [0xCB#8, 0xBB#8]
  | .res_7_H => [0xCB#8, 0xBC#8]
  | .res_7_L => [0xCB#8, 0xBD#8]
  | .res_7_mHL => [0xCB#8, 0xBE#8]
  | .res_7_A => [0xCB#8, 0xBF#8]
  | .set_0_B => [0xCB#8, 0xC0#8]
  | .set_0_C => [0xCB#8, 0xC1#8]
  | .set_0_D => [0xCB#8, 0xC2#8]
  | .set_0_E => [0xCB#8, 0xC3#8]
  | .set_0_H => [0xCB#8, 0xC4#8]
  | .set_0_L => [0xCB#8, 0xC5#8]
  | .set_0_mHL => [0xCB#8, 0xC6#8]
  | .set_0_A => [0xCB#8, 0xC7#8]
  | .set_1_B => [0xCB#8, 0xC8#8]
  | .set_1_C => [0xCB#8, 0xC9#8]
  | .set_1_D => [0xCB#8, 0xCA#8]
  | .set_1_E => [0xCB#8, 0xCB#8]
  | .set_1_H => [0xCB#8, 0xCC#8]
  | .set_1_L => [0xCB#8, 0xCD#8]
  | .set_1_mHL => [0xCB#8, 0xCE#8]
  | .set_1_A => [0xCB#8, 0xCF#8]
  | .set_2_B => [0xCB#8, 0xD0#8]
  | .set_2_C => [0xCB#8, 0xD1#8]
  | .set_2_D => [0xCB#8, 0xD2#8]
  | .set_2_E => [0xCB#8, 0xD3#8]
  | .set_2_H => [0xCB#8, 0xD4#8]
  | .set_2_L => [0xCB#8, 0xD5#8]
  | .set_2_mHL => [0xCB#8, 0xD6#8]
  | .set_2_A => [0xCB#8, 0xD7#8]
  | .set_3_B => [0xCB#8, 0xD8#8]
  | .set_3_C => [0xCB#8, 0xD9#8]
  | .set_3_D => [0xCB#8, 0xDA#8]
  | .set_3_E => [0xCB#8, 0xDB#8]
  | .set_3_H => [0xCB#8, 0xDC#8]
  | .set_3_L => [0xCB#8, 0xDD#8]
  | .set_3_mHL => [0xCB#8, 0xDE#8]
  | .set_3_A => [0xCB#8, 0xDF#8]
  | .set_4_B => [0xCB#8, 0xE0#8]
  | .set_4_C => [0xCB#8, 0xE1#8]
  | .set_4_D => [0xCB#8, 0xE2#8]
  | .set_4_E => [0xCB#8, 0xE3#8]
  | .set_4_H => [0xCB#8, 0xE4#8]
  | .set_4_L => [0xCB#8, 0xE5#8]
  | .set_4_mHL => [0xCB#8, 0xE6#8]
  | .set_4_A => [0xCB#8, 0xE7#8]
  | .set_5_B => [0xCB#8, 0xE8#8]
  | .set_5_C => [0xCB#8, 0xE9#8]
  | .set_5_D => [0xCB#8, 0xEA#8]
  | .set_5_E => [0xCB#8, 0xEB#8]
  | .set_5_H => [0xCB#8, 0xEC#8]
  | .set_5_L => [0xCB#8, 0xED#8]
  | .set_5_mHL => [0xCB#8, 0xEE#8]
  | .set_5_A => [0xCB#8, 0xEF#8]
  | .set_6_B => [0xCB#8, 0xF0#8]
  | .set_6_C => [0xCB#8, 0xF1#8]
  | .set_6_D => [0xCB#8, 0xF2#8]
  | .set_6_E => [0xCB#8, 0xF3#8]
  | .set_6_H => [0xCB#8, 0xF4#8]
  | .set_6_L => [0xCB#8, 0xF5#8]
  | .set_6_mHL => [0xCB#8, 0xF6#8]
  | .set_6_A => [0xCB#8, 0xF7#8]
  | .set_7_B => [0xCB#8, 0xF8#8]
  | .set_7_C => [0xCB#8, 0xF9#8]
  | .set_7_D => [0xCB#8, 0xFA#8]
  | .set_7_E => [0xCB#8, 0xFB#8]
  | .set_7_H => [0xCB#8, 0xFC#8]
  | .set_7_L => [0xCB#8, 0xFD#8]
  | .set_7_mHL => [0xCB#8, 0xFE#8]
  | .set_7_A => [0xCB#8, 0xFF#8]

/-! ## The host's entry -/

/-- The first byte and the bytes after it of an instruction word as spec/opcode_table.json numbers it (log entry 7). A row behind
the prefix has 16 bits and is numbered `first_byte * 256 + second_byte` (R182); any other word has its first byte in
bits 7:0, the second in 15:8, the third in 23:16, and the bits above `nbits` are 0. -/
def tableBytes (nbits w : Nat) : List Byte :=
  if nbits = 16 ∧ w / 256 % 256 = 0xCB then [0xCB#8, BitVec.ofNat 8 w, 0#8]
  else
    let v := w % 2 ^ nbits
    [BitVec.ofNat 8 v, BitVec.ofNat 8 (v / 256), BitVec.ofNat 8 (v / 65536)]

/-- The instruction this decoder reads from a word of the opcode table. The row PREFIX CB gives 8 bits, the prefix byte
alone, and is read as such; with the operand bits 0 after it the same byte begins `RLC B` (log entry 6). -/
def decodeTableWord (nbits w : Nat) : Option Instr :=
  let bytes := if nbits = 8 ∧ w = 0xCB then [0xCB#8] else tableBytes nbits w
  match decode bytes with
  | .ok (i, _) => some i
  | .error _ => none

end Sys2Proof
end

