-- ==== Sys2Proof/Config.lean ====
section
/-! DEFINITION. Fixed numbers of CORE (00_scope.md R8) and the OPEN parameters a model takes as an argument
(92_eei_decisions.md, "Open parameters, collected"). The OPEN parameters are plain data and stand in State
(`State.params`), so that every statement about a step holds for every value of them; the values below are the
spec's defaults. The spec leaves no result of an instruction undefined, so there is no free value here. -/
namespace Sys2Proof.Config

/-- Dots per scanline, `LINE_T` (R8, R511). -/
def lineT : Nat := 456
/-- Dots of OAM scan, `MODE2_T` (R8, R512). -/
def mode2T : Nat := 80
/-- Scanlines per frame, `LINES` (R8, R511). -/
def lines : Nat := 154
/-- Visible scanlines (R8, R511). -/
def visibleLines : Nat := 144
/-- Pixels per scanline (R511). -/
def linePixels : Nat := 160
/-- Bytes of one OAM DMA transfer, `DMA_LEN` (R8, R483). -/
def dmaLen : Nat := 160
/-- T-cycles between a TIMA overflow and its reload, `TIMA_RELOAD_DELAY_T` (R8, R457). -/
def timaReloadDelayT : Nat := 1
/-- Dots per frame-sequencer step, `FSEQ_PERIOD_T` (R8, R585). -/
def fseqPeriodT : Nat := 8192
/-- Bytes of one ROM bank, 16 KiB (R28, R653). -/
def romBankSize : Nat := 0x4000
/-- Bytes of one cartridge RAM bank, 8 KiB (R28, R654). -/
def eramBankSize : Nat := 0x2000
/-- Bytes of one video RAM bank, 8 KiB (R28). -/
def vramBankSize : Nat := 0x2000
/-- Bytes of one work RAM bank, 4 KiB (R28). -/
def wramBankSize : Nat := 0x1000

/-- `PAL_BLOCK_SET`: which palette registers ignore CPU writes in mode 3 (R8, R515; OPEN, D27). DESIGN CHOICE (log entry 21): the
set is any subset of BCPD, OCPD, BGP, OBP0 and OBP1, the registers that R515 names; it never holds the index registers BCPS
and OCPS. -/
structure PalBlock where
  bcpd : Bool
  ocpd : Bool
  bgp  : Bool
  obp0 : Bool
  obp1 : Bool
  deriving DecidableEq, Repr

/-- The OPEN parameters (R8). DESIGN CHOICE (log entry 3): `Mode3Extra(st)` is not a function, because State is plain
data: it is the values `Inputs.mode3In` lists, one for each line start, and after them the constant `mode3Extra`. -/
structure Params where
  palBlock        : PalBlock
  /-- `MODE3_LEAD` (R522, R525; D31). -/
  mode3Lead       : Nat
  /-- `Mode3Extra` once `Inputs.mode3In` is used up (R522, R525; D31). -/
  mode3Extra      : Nat
  /-- `SAMPLE_PERIOD_T` (R621; D38). -/
  samplePeriod    : Nat
  /-- `AUDIO_BUF_SAMPLES` (R621; D38). -/
  audioBufSamples : Nat
  deriving DecidableEq, Repr

/-- The defaults of R8: PAL_BLOCK_SET = BCPD and OCPD, MODE3_LEAD = 12, Mode3Extra = 0, SAMPLE_PERIOD_T = 95,
AUDIO_BUF_SAMPLES = 1024. -/
def Params.default : Params where
  palBlock        := ⟨true, true, false, false, false⟩
  mode3Lead       := 12
  mode3Extra      := 0
  samplePeriod    := 95
  audioBufSamples := 1024

end Sys2Proof.Config
end

