-- ==== Sys2Proof/Machine/State.lean ====
section
/-! DEFINITION. The state of CORE as plain data (10_state.md; 64_apu.md R581; 65_cartridge.md R656), the reasons a step or a
power-on can stop, and the state right after reset (70_reset_and_hazards.md R700). -/
namespace Sys2Proof.Machine

open Sys2Proof.Config

/-! ## Storage

A storage array is a list of (offset, value) pairs, offsets strictly rising, no value 0: an unlisted offset reads 0,
which is the reset contents of every array of R28. Banked arrays are keyed by `bank * size of a bank + offset`. -/

/-- A storage array of `w`-bit elements. -/
abbrev Store (w : Nat) := List (Nat × BitVec w)

/-- A byte array: a list of `Host.Cell`. -/
abbrev Memory := Store 8

/-- What an unlisted offset reads as: 0, the reset contents (R28; for `rom` log entry 1). -/
def Store.unlisted {w : Nat} : BitVec w := 0#w

/-- The canonical form: offsets strictly rising, and no entry equal to what an unlisted offset reads as. -/
abbrev Store.wf {w : Nat} (m : Store w) : Prop :=
  m.Pairwise (fun p q => p.1 < q.1) ∧ ∀ p ∈ m, p.2 ≠ Store.unlisted

/-- The canonical form of a byte array. -/
abbrev Memory.wf (m : Memory) : Prop := Store.wf m

/-! ## CPU -/

/-- The storage of register F: bits 7, 6, 5, 4; bits 3:0 are hard-wired 0 and have no storage (R24, R25). -/
structure Flags where
  /-- bit 7, zero -/
  z : Bool
  /-- bit 6, subtract -/
  n : Bool
  /-- bit 5, half-carry (`Hf`) -/
  h : Bool
  /-- bit 4, carry (`Cf`) -/
  c : Bool
  deriving DecidableEq, Repr

/-- The CPU registers and control flags (R20 to R26). -/
structure Cpu where
  a : Byte
  f : Flags
  b : Byte
  c : Byte
  d : Byte
  e : Byte
  h : Byte
  l : Byte
  sp : Word
  pc : Word
  /-- interrupt-master-enable flag -/
  ime : Bool
  /-- pending-enable flag: `EI` was executed, `ime` comes after the next instruction -/
  imePending : Bool
  halt : Bool
  stop : Bool
  /-- an undefined opcode was fetched; also the output port `illegal` (R31) -/
  illegal : Bool
  deriving DecidableEq, Repr

/-! ## Interrupt controller, timer, joypad, serial, speed, bank selectors -/

/-- IE, IF and the STAT line latch (R404, R405, R420). -/
structure Irq where
  ie : Byte
  /-- `if_[4:0]` -/
  pend : BitVec 5
  statLine : Bool
  deriving DecidableEq, Repr

/-- Divider and timer (R450). -/
structure Timer where
  div16 : Word
  tima : Byte
  tma : Byte
  tac : BitVec 3
  /-- the timer-overflow latch, `tima_reload` -/
  reload : Nat
  deriving DecidableEq, Repr

/-- Joypad register and the last computed lines (R470, R472). -/
structure Joypad where
  p1Sel : BitVec 2
  lines : BitVec 4
  deriving DecidableEq, Repr

/-- SB and SC, storage only (R475). -/
structure Serial where
  sb : Byte
  /-- stored bits 7 and 0, and 1 in extended mode -/
  sc : Byte
  deriving DecidableEq, Repr

/-- KEY1 bits 7 and 0 (R347). -/
structure Speed where
  doubleSpeed : Bool
  prepare : Bool
  deriving DecidableEq, Repr

/-- VBK and SVBK (R124, R126). -/
structure Banks where
  vbk : BitVec 1
  svbk : BitVec 3
  deriving DecidableEq, Repr

/-! ## Transfer engines -/

/-- The OAM DMA engine (R480). -/
structure OamDma where
  reg : Byte
  active : Bool
  src : Word
  idx : Nat
  deriving DecidableEq, Repr

/-- Which kind of HDMA transfer is in progress (R490). -/
inductive HdmaMode where
  | idle | general | hblank
  deriving DecidableEq, Repr

/-- The HDMA engine (R490); HDMA1 to HDMA4 write `src` and `dst` themselves (R491). -/
structure Hdma where
  src : Word
  dst : Word
  mode : HdmaMode
  /-- blocks remaining minus 1 -/
  left : BitVec 7
  blockReq : Bool
  /-- next byte within the block -/
  byte : Nat
  deriving DecidableEq, Repr

/-! ## PPU -/

/-- The PPU modes (R512): STAT bits 1:0 show 0, 1, 2, 3 in this order. -/
inductive PpuMode where
  | hblank | vblank | oamScan | transfer
  deriving DecidableEq, Repr

/-- A sprite candidate of the scanline: the four OAM bytes and the OAM index (R535, R536). -/
structure Sprite where
  y : Byte
  x : Byte
  tile : Byte
  attr : Byte
  idx : Nat
  deriving DecidableEq, Repr

/-- The PPU: its registers (R513 to R515, R560) and its own state (R510). -/
structure Ppu where
  lcdc : Byte
  /-- STAT bits 6:3, the four interrupt enables; bit 0 of this field is STAT bit 3 -/
  statEn : BitVec 4
  scy : Byte
  scx : Byte
  lyc : Byte
  bgp : Byte
  obp0 : Byte
  obp1 : Byte
  wy : Byte
  wx : Byte
  bcps : Byte
  ocps : Byte
  ly : Nat
  lx : Nat
  mode : PpuMode
  px : Nat
  m3Skip : Nat
  m3Done : Bool
  winLine : Byte
  winYTrig : Bool
  winDrawn : Bool
  /-- the candidates in drawing order; `n_spr` is the length -/
  spr : List Sprite
  /-- output port: the framebuffer, keyed `y * 160 + x` -/
  fb : Store 16
  /-- output port, cleared by the host only -/
  frameDone : Bool
  deriving DecidableEq, Repr

/-! ## APU -/

/-- A square channel: stored bytes NRc1 to NRc4 and channel state (R581, R590). -/
structure SquareCh where
  r1 : Byte
  r2 : Byte
  r3 : Byte
  r4 : Byte
  en : Bool
  pcnt : Nat
  dutyPos : Nat
  vol : Nat
  envCnt : Nat
  len : Nat
  deriving DecidableEq, Repr

/-- The wave channel: NR30 to NR34 and channel state (R581, R600). -/
structure WaveCh where
  r0 : Byte
  r1 : Byte
  r2 : Byte
  r3 : Byte
  r4 : Byte
  en : Bool
  pcnt : Nat
  pos : Nat
  len : Nat
  deriving DecidableEq, Repr

/-- The noise channel: NR41 to NR44 and channel state (R581, R610). -/
structure NoiseCh where
  r1 : Byte
  r2 : Byte
  r3 : Byte
  r4 : Byte
  en : Bool
  pcnt : Nat
  lfsr : BitVec 15
  vol : Nat
  envCnt : Nat
  len : Nat
  deriving DecidableEq, Repr

/-- The APU (R580, R581). -/
structure Apu where
  /-- NR52 bit 7, `apu_on` -/
  on : Bool
  nr10 : Byte
  ch1 : SquareCh
  ch2 : SquareCh
  ch3 : WaveCh
  ch4 : NoiseCh
  nr50 : Byte
  nr51 : Byte
  sweepCnt : Nat
  phase : Nat
  fseqCnt : Nat
  fseqStep : Nat
  sampleCnt : Nat
  audioWr : Nat
  /-- output port: interleaved stereo samples, left first -/
  audioBuf : Store 16
  /-- output port, cleared by the host only -/
  audioFull : Bool
  deriving DecidableEq, Repr

/-! ## Cartridge -/

/-- Mapper type 1 (R656, R661). -/
structure Mbc1 where
  ramEn : Bool
  bankLo : BitVec 5
  bankHi : BitVec 2
  mode : Bool
  deriving DecidableEq, Repr

/-- Mapper type 2 (R656, R665); `ram` is `mbc2_ram[0..511]`. -/
structure Mbc2 where
  ramEn : Bool
  romBank : BitVec 4
  ram : Store 4
  deriving DecidableEq, Repr

/-- The five clock registers (R670); `dayHi`, `halt`, `carry` are bits 0, 6, 7 of `ctrl`. -/
structure RtcRegs where
  sec : BitVec 6
  min : BitVec 6
  hour : BitVec 5
  dayLo : Byte
  dayHi : Bool
  halt : Bool
  carry : Bool
  deriving DecidableEq, Repr

/-- The real-time clock: live registers, latched copy, anchor (R656, R670, R674). -/
structure Rtc where
  live : RtcRegs
  latched : RtcRegs
  anchor : Int
  deriving DecidableEq, Repr

/-- Mapper type 3 (R656, R666); `rtc` is present when `HAS_RTC`. -/
structure Mbc3 where
  ramEn : Bool
  romBank : BitVec 7
  ramSel : BitVec 4
  latchPrev : Byte
  rtc : Option Rtc
  deriving DecidableEq, Repr

/-- Mapper type 5 (R656, R680). -/
structure Mbc5 where
  ramEn : Bool
  romLo : Byte
  romHi : BitVec 1
  ramBank : BitVec 4
  deriving DecidableEq, Repr

/-- The mapper: "a tagged variant over mapper kind with per-kind state" (R656). -/
inductive Mapper where
  | none
  | mbc1 (m : Mbc1)
  | mbc2 (m : Mbc2)
  | mbc3 (m : Mbc3)
  | mbc5 (m : Mbc5)
  deriving DecidableEq, Repr

/-- The cartridge: image, RAM, configuration (R651 to R654) and mapper. -/
structure Cart where
  rom : Memory
  eram : Memory
  romBanks : Nat
  ramBanks : Nat
  hasBattery : Bool
  mapper : Mapper
  deriving DecidableEq, Repr

/-! ## Input ports -/

/-- The input ports `keys` and `now` (R31, R473, R673): the level the host drives now, and the values it will drive
next: `keysIn` gives one value to each T-cycle, `nowIn` one to each clock update; when a list is empty the level holds
(log entry 4). Beside them the open function `Mode3Extra` (R522, R525), as the values it will give. -/
structure Inputs where
  keys : Byte
  keysIn : List Byte
  now : Int
  nowIn : List Int
  /-- the values `Mode3Extra(st)` takes at the next line starts (log entry 3); when the list is empty,
  `params.mode3Extra` -/
  mode3In : List Nat
  deriving DecidableEq, Repr

/-! ## The state -/

/-- The whole state of CORE. -/
structure State where
  /-- `CGB`: extended mode, sampled from the cartridge at reset (R3, R701) -/
  cgb : Bool
  /-- the OPEN parameters (R8); no step changes them -/
  params : Params
  cpu : Cpu
  irq : Irq
  timer : Timer
  joy : Joypad
  serial : Serial
  speed : Speed
  banks : Banks
  dma : OamDma
  hdma : Hdma
  vram : Memory
  wram : Memory
  oam : Memory
  hram : Memory
  bgpal : Memory
  obpal : Memory
  wave : Memory
  ppu : Ppu
  apu : Apu
  cart : Cart
  inputs : Inputs
  deriving DecidableEq, Repr

/-! ## Reasons to stop -/

/-- The faults of a step. There is none: "There is no behaviour for which this spec asks for *fault*: CORE has no
synchronous trap" (93_implementation_defined.md; 60_exceptions.md R403). An undefined opcode sets `illegal` (R402), which
is a next state after which nothing happens. -/
inductive Fault : Type
  deriving DecidableEq, Repr

/-- The refusals. -/
inductive Refusal where
  /-- Raised by an arm of `exec` that has no meaning yet; no arm is left in that case. Safe. -/
  | notModelled (mnemonic : String)
  /-- Raised by `powerOn`, before the first step: the mapper-type byte at 0x0147 is outside the table of R652 (93 U2, U3).
  Safe: no machine is built. -/
  | unsupportedMapper (code : Byte)
  /-- Raised by `powerOn`: the ROM-size byte at 0x0148 is above 8 (R653, 93 U2). Safe. -/
  | unsupportedRomSize (code : Byte)
  /-- Raised by `powerOn`: the RAM-size byte at 0x0149 is above 5 (R654, 93 U2). Safe. -/
  | unsupportedRamSize (code : Byte)
  /-- Raised by `powerOn`: the image is shorter than ROM_BANKS banks (R653, 93 U4). Safe. -/
  | truncatedRom (length : Nat)
  deriving DecidableEq, Repr

/-- The outcome of a step or an instruction of this machine. -/
abbrev Outcome := Host.Outcome State Fault Refusal

/-! ## Reset (R700) -/

/-- The CPU after reset; the registers A to L and F depend on the mode (R21, R22, R23, R26). -/
def Cpu.reset (cgb : Bool) : Cpu where
  a := if cgb then 0x11#8 else 0x01#8
  f := if cgb then ⟨true, false, false, false⟩ else ⟨true, false, true, true⟩
  b := 0x00#8
  c := if cgb then 0x00#8 else 0x13#8
  d := if cgb then 0xFF#8 else 0x00#8
  e := if cgb then 0x56#8 else 0xD8#8
  h := if cgb then 0x00#8 else 0x01#8
  l := if cgb then 0x0D#8 else 0x4D#8
  sp := 0xFFFE#16
  pc := 0x0100#16
  ime := false
  imePending := false
  halt := false
  stop := false
  illegal := false

/-- The interrupt controller after reset (R29, R30). -/
def Irq.reset : Irq := ⟨0x00#8, 0x01#5, false⟩

/-- The timer after reset (R29, R30). -/
def Timer.reset : Timer := ⟨0xABCC#16, 0x00#8, 0x00#8, 0#3, 0⟩

/-- The joypad after reset (R30). -/
def Joypad.reset : Joypad := ⟨3#2, 0xF#4⟩

/-- The serial registers after reset (R29). -/
def Serial.reset : Serial := ⟨0x00#8, 0x00#8⟩

/-- The speed bits after reset (R30). -/
def Speed.reset : Speed := ⟨false, false⟩

/-- The bank selectors after reset (R30). -/
def Banks.reset : Banks := ⟨0#1, 0#3⟩

/-- The OAM DMA engine after reset (R480). -/
def OamDma.reset : OamDma := ⟨0xFF#8, false, 0xFF00#16, 0⟩

/-- The HDMA engine after reset (R30). -/
def Hdma.reset : Hdma := ⟨0xFFF0#16, 0x9FF0#16, .idle, 0x7F#7, false, 0⟩

/-- The PPU after reset (R29, R30, R702). -/
def Ppu.reset : Ppu where
  lcdc := 0x91#8
  statEn := 0#4
  scy := 0x00#8
  scx := 0x00#8
  lyc := 0x00#8
  bgp := 0xFC#8
  obp0 := 0xFF#8
  obp1 := 0xFF#8
  wy := 0x00#8
  wx := 0x00#8
  bcps := 0x00#8
  ocps := 0x00#8
  ly := 0
  lx := 0
  mode := .oamScan
  px := 0
  m3Skip := 0
  m3Done := false
  winLine := 0#8
  winYTrig := true
  winDrawn := false
  spr := []
  fb := []
  frameDone := false

/-- The APU after reset: stored bytes R584, channel state R581. -/
def Apu.reset : Apu where
  on := true
  nr10 := 0x00#8
  ch1 := ⟨0x80#8, 0xF3#8, 0xFF#8, 0x00#8, false, 0, 0, 0, 0, 0⟩
  ch2 := ⟨0x00#8, 0x00#8, 0xFF#8, 0x00#8, false, 0, 0, 0, 0, 0⟩
  ch3 := ⟨0x00#8, 0xFF#8, 0x00#8, 0xFF#8, 0x00#8, false, 0, 0, 0⟩
  ch4 := ⟨0x3F#8, 0x00#8, 0x00#8, 0x00#8, false, 0, 0x7FFF#15, 0, 0, 0⟩
  nr50 := 0x77#8
  nr51 := 0xF3#8
  sweepCnt := 0
  phase := 0
  fseqCnt := 0
  fseqStep := 0
  sampleCnt := 0
  audioWr := 0
  audioBuf := []
  audioFull := false

/-- The input ports of the reset state: DESIGN CHOICE (log entry 2), no key held, wall clock 0, nothing scheduled. -/
def Inputs.reset : Inputs := ⟨0x00#8, [], 0, [], []⟩

/-- The blank cartridge: DESIGN CHOICE (log entry 1), an image of zero bytes, whose header means monochrome mode, no
mapper, 2 ROM banks, no RAM (R651 to R654). -/
def Cart.blank : Cart := ⟨[], [], 2, 0, false, .none⟩

/-- Every state element at its reset value (R700) for a mode, parameters, a cartridge whose mapper is already at its
reset values, and what the host drives on the input ports. -/
def State.resetWith (cgb : Bool) (params : Params) (cart : Cart) (inputs : Inputs) : State where
  cgb := cgb
  params := params
  cpu := Cpu.reset cgb
  irq := Irq.reset
  timer := Timer.reset
  joy := Joypad.reset
  serial := Serial.reset
  speed := Speed.reset
  banks := Banks.reset
  dma := OamDma.reset
  hdma := Hdma.reset
  vram := []
  wram := []
  oam := []
  hram := []
  bgpal := []
  obpal := []
  wave := []
  ppu := Ppu.reset
  apu := Apu.reset
  cart := cart
  inputs := inputs

/-- The machine right after reset: the reset values of R700 with the blank cartridge (log entry 1), the default parameters
(log entry 3) and idle input ports (log entry 2). -/
def State.reset : State := State.resetWith false Params.default Cart.blank Inputs.reset

end Sys2Proof.Machine
end

