-- ==== Sys2Proof/Machine/Flags.lean ====
section
/-! DEFINITION. Register F as a byte, and every flag computation: the arithmetic helpers Add8 and Sub8, the eight ALU
operations, INC and DEC, the accumulator adjustments (42_alu8.md), 16-bit addition (43_alu16.md), rotates, shifts and
bit tests (44_rotate_shift_bit.md). Results are computed exactly on numbers and narrowed at the end. -/
namespace Sys2Proof.Machine

/-- F read whole: Z, N, Hf, Cf in bits 7 to 4, bits 3:0 read 0 (R24, R25). -/
def Flags.toByte (f : Flags) : Byte :=
  BitVec.ofBool f.z ++ BitVec.ofBool f.n ++ BitVec.ofBool f.h ++ BitVec.ofBool f.c ++ 0#4

/-- F written whole: `v & 0xF0` (R25, R240). -/
def Flags.ofByte (v : Byte) : Flags := ⟨bit v 7, bit v 6, bit v 5, bit v 4⟩

/-! ## 8-bit arithmetic (R251) -/

/-- A result with its half-carry and carry. -/
structure ArithRes where
  res : Byte
  h : Bool
  cy : Bool
  deriving DecidableEq, Repr

/-- `v[3:0]`. -/
def lowNibble (v : Byte) : Nat := v.toNat % 16

/-- `Add8(a, b, c)` (R251). -/
def add8 (a b : Byte) (c : Bool) : ArithRes where
  res := BitVec.ofNat 8 (a.toNat + b.toNat + b2n c)
  h := decide (lowNibble a + lowNibble b + b2n c > 15)
  cy := decide (a.toNat + b.toNat + b2n c > 255)

/-- `Sub8(a, b, c)` (R251). -/
def sub8 (a b : Byte) (c : Bool) : ArithRes where
  res := BitVec.ofInt 8 ((a.toNat : Int) - b.toNat - b2n c)
  h := decide ((lowNibble a : Int) - lowNibble b - b2n c < 0)
  cy := decide ((a.toNat : Int) - b.toNat - b2n c < 0)

/-- The flags after an 8-bit addition (R253, R254). -/
def ArithRes.addFlags (r : ArithRes) : Flags := ⟨r.res == 0#8, false, r.h, r.cy⟩

/-- The flags after an 8-bit subtraction or comparison (R255, R256, R260). -/
def ArithRes.subFlags (r : ArithRes) : Flags := ⟨r.res == 0#8, true, r.h, r.cy⟩

/-- The eight operations `alu[y]` on `A` and the source operand: the new `A` and the flags (R253 to R260). -/
def alu (op : AluOp) (a s : Byte) (f : Flags) : Byte × Flags :=
  match op with
  | .add => ((add8 a s false).res, (add8 a s false).addFlags)
  | .adc => ((add8 a s f.c).res, (add8 a s f.c).addFlags)
  | .sub => ((sub8 a s false).res, (sub8 a s false).subFlags)
  | .sbc => ((sub8 a s f.c).res, (sub8 a s f.c).subFlags)
  | .and => (a &&& s, ⟨a &&& s == 0#8, false, true, false⟩)
  | .xor => (a ^^^ s, ⟨a ^^^ s == 0#8, false, false, false⟩)
  | .or => (a ||| s, ⟨a ||| s == 0#8, false, false, false⟩)
  | .cp => (a, (sub8 a s false).subFlags)

/-- `INC` of a byte: the result and the flags, `Cf` unchanged (R261, R262). -/
def inc8 (v : Byte) (f : Flags) : Byte × Flags :=
  let r := add8 v 1#8 false
  (r.res, ⟨r.res == 0#8, false, r.h, f.c⟩)

/-- `DEC` of a byte: the result and the flags, `Cf` unchanged (R263, R264). -/
def dec8 (v : Byte) (f : Flags) : Byte × Flags :=
  let r := sub8 v 1#8 false
  (r.res, ⟨r.res == 0#8, true, r.h, f.c⟩)

/-! ## Accumulator and flag adjustments -/

/-- The correction `adj` of DAA (R265). -/
def daaAdj (a : Byte) (f : Flags) : Nat :=
  (if f.h || (!f.n && decide (lowNibble a > 9)) then 0x06 else 0) +
  (if f.c || (!f.n && decide (a.toNat > 0x99)) then 0x60 else 0)

/-- `DAA` (R265): the new `A` and the flags. -/
def daa (a : Byte) (f : Flags) : Byte × Flags :=
  let res : Byte := if f.n then BitVec.ofInt 8 ((a.toNat : Int) - daaAdj a f)
                    else BitVec.ofNat 8 (a.toNat + daaAdj a f)
  (res, ⟨res == 0#8, f.n, false, f.c || (!f.n && decide (a.toNat > 0x99))⟩)

/-- The flags after `CPL` (R266). -/
def cplFlags (f : Flags) : Flags := ⟨f.z, true, true, f.c⟩
/-- The flags after `SCF` (R267). -/
def scfFlags (f : Flags) : Flags := ⟨f.z, false, false, true⟩
/-- The flags after `CCF` (R268). -/
def ccfFlags (f : Flags) : Flags := ⟨f.z, false, false, !f.c⟩

/-! ## 16-bit arithmetic -/

/-- `ADD HL,rr` (R280): the sum and the flags; carries out of bits 11 and 15, `Z` unchanged. -/
def add16 (hl v : Word) (f : Flags) : Word × Flags :=
  (BitVec.ofNat 16 (hl.toNat + v.toNat),
   ⟨f.z, false, decide (hl.toNat % 0x1000 + v.toNat % 0x1000 > 0x0FFF), decide (hl.toNat + v.toNat > 0xFFFF)⟩)

/-- `AddSpE(s, e)` with its flags (R284, R234, R283): carries out of bits 3 and 7 of the unsigned byte addition. -/
def addSpE (s : Word) (e : Byte) : Word × Flags :=
  (s + sext16 e,
   ⟨false, false, decide (s.toNat % 16 + lowNibble e > 15), decide (s.toNat % 256 + e.toNat > 255)⟩)

/-! ## Rotates, shifts, bits -/

/-- The byte shifted left one bit with `c` entering bit 0 (R291, R293, R295, R297, R299). -/
def shiftLeft1 (v : Byte) (c : Bool) : Byte := BitVec.ofNat 8 (v.toNat * 2 + b2n c)

/-- The byte shifted right one bit with `c` entering bit 7 (R292, R294, R296, R298, R300, R302). -/
def shiftRight1 (v : Byte) (c : Bool) : Byte := BitVec.ofNat 8 (v.toNat / 2 + b2n c * 128)

/-- The result and the new `Cf` of `rot[y]`; `c` is the old `Cf` (R295 to R302). -/
def rotate (op : RotOp) (v : Byte) (c : Bool) : Byte × Bool :=
  match op with
  | .rlc => (shiftLeft1 v (bit v 7), bit v 7)
  | .rrc => (shiftRight1 v (bit v 0), bit v 0)
  | .rl => (shiftLeft1 v c, bit v 7)
  | .rr => (shiftRight1 v c, bit v 0)
  | .sla => (shiftLeft1 v false, bit v 7)
  | .sra => (shiftRight1 v (bit v 7), bit v 0)
  | .swap => (BitVec.ofNat 8 (v.toNat * 16 + v.toNat / 16), false)
  | .srl => (shiftRight1 v false, bit v 0)

/-- A prefixed rotate or shift: the result and the flags (R295 to R302). -/
def rotFlags (op : RotOp) (v : Byte) (f : Flags) : Byte × Flags :=
  let r := rotate op v f.c
  (r.1, ⟨r.1 == 0#8, false, false, r.2⟩)

/-- An accumulator rotate: as the prefixed one, but `Z` is cleared (R290 to R294). -/
def rotAFlags (op : RotOp) (v : Byte) (f : Flags) : Byte × Flags :=
  let r := rotate op v f.c
  (r.1, ⟨false, false, false, r.2⟩)

/-- The flags of `BIT b` on `v` (R303). -/
def bitFlags (v : Byte) (b : Nat) (f : Flags) : Flags := ⟨!bit v b, false, true, f.c⟩

/-- `v & ~(1 << b)` (R304). -/
def resBit (v : Byte) (b : Nat) : Byte := v &&& ~~~(1#8 <<< b)

/-- `v | (1 << b)` (R305). -/
def setBit (v : Byte) (b : Nat) : Byte := v ||| (1#8 <<< b)

end Sys2Proof.Machine
end

