-- ==== Sys2Proof/Machine/Devices.lean ====
section
/-! DEFINITION. The interrupt request and the STAT line (60_exceptions.md), divider and timer, joypad and serial registers
(61_timer_joypad_serial.md), as operations on their own part of the state. -/
namespace Sys2Proof.Machine

open Sys2Proof.Config

/-! ## Interrupt controller -/

/-- `RequestInterrupt(i)` (R406): IF bit `i` becomes 1, whatever `ime` and IE hold. -/
def Irq.request (q : Irq) (i : Nat) : Irq := { q with pend := q.pend ||| (1#5 <<< i) }

/-- `RequestInterrupt(i)` when `b` holds. -/
def Irq.requestIf (q : Irq) (b : Bool) (i : Nat) : Irq := { q with pend := if b then (q.request i).pend else q.pend }

/-- What a CPU read of IF returns (R404): bits 7:5 read 1. -/
def Irq.readIf (q : Irq) : Byte := 0b111#3 ++ q.pend

/-- A CPU write of IF (R404). -/
def Irq.writeIf (q : Irq) (v : Byte) : Irq := { q with pend := v.extractLsb' 0 5 }

/-- `Pending() = IE & IF & 0x1F` (R408). -/
def Irq.pending (q : Irq) : BitVec 5 := q.ie.extractLsb' 0 5 &&& q.pend

/-- The index of the lowest set bit of a 5-bit mask, 5 for the empty mask (R410, R411). -/
def lowestBit (m : BitVec 5) : Nat :=
  if m.getLsbD 0 then 0 else if m.getLsbD 1 then 1 else if m.getLsbD 2 then 2 else if m.getLsbD 3 then 3
  else if m.getLsbD 4 then 4 else 5

/-- The composite STAT line (R420): LYC coincidence (STAT bit 6), mode 0 (bit 3), mode 1 (bit 4), mode 2 (bit 5). -/
def Ppu.statLine (p : Ppu) : Bool :=
  (p.ly == p.lyc.toNat && p.statEn.getLsbD 3) ||
  (p.mode == .hblank && p.statEn.getLsbD 0) ||
  (p.mode == .vblank && p.statEn.getLsbD 1) ||
  (p.mode == .oamScan && p.statEn.getLsbD 2)

/-- `StatLineUpdate()` (R420): interrupt 1 on a 0-to-1 edge of the line, then the latch. -/
def Irq.statUpdate (q : Irq) (line : Bool) : Irq :=
  { q.requestIf (!q.statLine && line) 1 with statLine := line }

/-! ## Divider and timer -/

/-- `TimerBit` (R453). -/
def timerBit (sel : Nat) : Nat := match sel with | 0 => 9 | 1 => 3 | 2 => 5 | _ => 7

/-- `TimerSignal()` (R451, R453): the watched divider bit ANDed with the enable bit. -/
def Timer.signal (t : Timer) : Bool := t.tac.getLsbD 2 && t.div16.getLsbD (timerBit (t.tac.toNat % 4))

/-- `TimaIncrement()` (R451, R456, R457). -/
def Timer.increment (t : Timer) : Timer :=
  if t.tima = 0xFF#8 then { t with tima := 0x00#8, reload := timaReloadDelayT } else { t with tima := t.tima + 1#8 }

/-- The timer `t'` after a change of divider or TAC made from `t`: a falling edge of the signal increments TIMA
(R451, R452, R455, R460). -/
def Timer.edge (t t' : Timer) : Timer := if t.signal && !t'.signal then t'.increment else t'

/-- The overflow latch in one T-cycle (R451, R458): the timer, and whether interrupt 2 is requested. -/
def Timer.latch (t : Timer) : Timer × Bool :=
  if t.reload = 0 then (t, false)
  else if t.reload = 1 then ({ t with reload := 0, tima := t.tma }, true)
  else ({ t with reload := t.reload - 1 }, false)

/-- `TimerTick()`, one CPU T-cycle (R451): the overflow latch first, then the divider. So with TMA = 0xF0 and bit 3 watched
the next overflow comes 256 T-cycles after the last overflow, which is 255 after the reload; the worked timing of R461 says
256 after the reload (DEDUCED, log entry 22: the procedure is followed). -/
def Timer.tick (t : Timer) : Timer × Bool :=
  let r := t.latch
  (r.1.edge { r.1 with div16 := r.1.div16 + 1#16 }, r.2)

/-- `DivReset()` (R452): the divider becomes 0, with the falling-edge check. -/
def Timer.divReset (t : Timer) : Timer := t.edge { t with div16 := 0#16 }

/-- A CPU write of TAC (R460). -/
def Timer.writeTac (t : Timer) (v : Byte) : Timer := t.edge { t with tac := v.extractLsb' 0 3 }

/-! ## Joypad -/

/-- The four input lines for a keypad bitmask and the two select bits (R472, R473): 0 = pressed. Select bit 0 = 0 selects
the direction keys `keys[3:0]`, select bit 1 = 0 the action buttons `keys[7:4]`. -/
def joyLines (keys : Byte) (sel : BitVec 2) : BitVec 4 :=
  let dir : BitVec 4 := if sel.getLsbD 0 then 0#4 else keys.extractLsb' 0 4
  let act : BitVec 4 := if sel.getLsbD 1 then 0#4 else keys.extractLsb' 4 4
  ~~~(dir ||| act)

/-- `JoypadUpdate()` (R472): the new lines, and whether some line went from 1 to 0 (interrupt 4). -/
def Joypad.update (j : Joypad) (keys : Byte) : Joypad × Bool :=
  let new := joyLines keys j.p1Sel
  ({ j with lines := new }, (j.lines &&& ~~~new) != 0#4)

/-- What a CPU read of P1 returns (R470). -/
def Joypad.readP1 (j : Joypad) : Byte := 0b11#2 ++ j.p1Sel ++ j.lines

/-- A CPU write of P1 (R471). -/
def Joypad.writeP1 (j : Joypad) (v : Byte) : Joypad := { j with p1Sel := v.extractLsb' 4 2 }

/-- The `keys` port in the next T-cycle (R473): the next scheduled value, else the level it holds (log entry 4). -/
def Inputs.nextKeys (i : Inputs) : Inputs :=
  match i.keysIn with
  | [] => i
  | k :: ks => { i with keys := k, keysIn := ks }

/-- The `now` port at the next clock update (R673): the next scheduled value, else the level it holds (log entry 4). -/
def Inputs.nextNow (i : Inputs) : Inputs :=
  match i.nowIn with
  | [] => i
  | n :: ns => { i with now := n, nowIn := ns }

/-! ## Serial registers -/

/-- The bits of SC that are stored (R475). -/
def scStored (cgb : Bool) : Byte := if cgb then 0x83#8 else 0x81#8

/-- What a CPU read of SC returns (R475): the bits without storage read 1. -/
def Serial.readSc (r : Serial) (cgb : Bool) : Byte := r.sc ||| ~~~(scStored cgb)

/-- A CPU write of SC (R475): stored, nothing starts. -/
def Serial.writeSc (r : Serial) (cgb : Bool) (v : Byte) : Serial := { r with sc := v &&& scStored cgb }

end Sys2Proof.Machine
end

