-- ==== Sys2Proof/Machine/Store.lean ====
section
/-! DEFINITION. Reading and writing a storage array (10_state.md R28). Both follow the rising order of the list; a write
keeps the canonical form: writing the value of an unlisted offset removes the entry. -/
namespace Sys2Proof.Machine

/-- The element at offset `a`. -/
def Store.read {w : Nat} : Store w → Nat → BitVec w
  | [], _ => Store.unlisted
  | (k, v) :: m, a => if a = k then v else if a < k then Store.unlisted else Store.read m a

/-- `m` with `v` in front of it at offset `a`, unless `v` is what an unlisted offset reads as. -/
def Store.put {w : Nat} (a : Nat) (v : BitVec w) (m : Store w) : Store w :=
  if v = Store.unlisted then m else (a, v) :: m

/-- The array after `v` is stored at offset `a`. -/
def Store.write {w : Nat} : Store w → Nat → BitVec w → Store w
  | [], a, v => Store.put a v []
  | (k, x) :: m, a, v =>
    if a < k then Store.put a v ((k, x) :: m)
    else if a = k then Store.put a v m
    else (k, x) :: Store.write m a v

/-- The array that holds the bytes of a list from offset `a` on. -/
def Store.ofList {w : Nat} : Nat → List (BitVec w) → Store w
  | _, [] => []
  | a, v :: vs => Store.put a v (Store.ofList (a + 1) vs)

end Sys2Proof.Machine
end

