-- ==== Sys2Proof/Machine/Cartridge.lean ====
section
/-! DEFINITION. The cartridge port: mappers none, 1, 2, 3, 5 and the real-time clock (65_cartridge.md). Addresses are plain
numbers in 0x0000-0x7FFF and 0xA000-0xBFFF. -/
namespace Sys2Proof.Machine

open Sys2Proof.Config

/-! ## ROM and RAM windows -/

/-- `b mod ROM_BANKS` (R655). -/
def Cart.romBank (c : Cart) (b : Nat) : Nat := b % c.romBanks

/-- A bank selector of 0 read as 1 (R662, R665, R667). -/
def orOne (b : Nat) : Nat := if b = 0 then 1 else b

/-- The bank that ROM window 0 shows (R660, R662, R665, R667, R681). -/
def Cart.window0 (c : Cart) : Nat :=
  match c.mapper with
  | .mbc1 m => if m.mode = true ∧ c.romBanks > 32 then c.romBank (m.bankHi.toNat * 32) else 0
  | _ => 0

/-- The bank that ROM window 1 shows (R660, R662, R665, R667, R681). -/
def Cart.window1 (c : Cart) : Nat :=
  match c.mapper with
  | .none => c.romBank 1
  | .mbc1 m => c.romBank (m.bankHi.toNat * 32 + orOne m.bankLo.toNat)
  | .mbc2 m => c.romBank (orOne m.romBank.toNat)
  | .mbc3 m => c.romBank (orOne m.romBank.toNat)
  | .mbc5 m => c.romBank (m.romHi.toNat * 256 + m.romLo.toNat)

/-- The offset in `rom` of an address below 0x8000 (R113, R655). -/
def Cart.romOffset (c : Cart) (a : Nat) : Nat :=
  if a < romBankSize then c.window0 * romBankSize + a else c.window1 * romBankSize + (a - romBankSize)

/-- What an access in 0xA000-0xBFFF reaches (R658, R660, R663, R665, R668, R681). -/
inductive RamTarget where
  /-- nothing: reads 0xFF, writes discarded -/
  | absent
  /-- offset in `eram` -/
  | eram (off : Nat)
  /-- index in `mbc2_ram` -/
  | mbc2 (idx : Nat)
  /-- a clock register, by its selector value -/
  | rtc (reg : Nat)
  deriving DecidableEq, Repr

/-- Cartridge RAM bank `rb` (R658, R655): absent without RAM. -/
def Cart.eramTarget (c : Cart) (rb a : Nat) : RamTarget :=
  if c.ramBanks = 0 then .absent else .eram (rb % c.ramBanks * eramBankSize + (a - 0xA000))

/-- What an address in 0xA000-0xBFFF reaches. -/
def Cart.ramTarget (c : Cart) (a : Nat) : RamTarget :=
  match c.mapper with
  | .none => c.eramTarget 0 a
  | .mbc1 m => if m.ramEn then c.eramTarget (if m.mode then m.bankHi.toNat else 0) a else .absent
  | .mbc2 m => if m.ramEn then .mbc2 (a % 0x200) else .absent
  | .mbc3 m =>
    if m.ramEn then
      if m.ramSel.toNat < 8 then c.eramTarget m.ramSel.toNat a
      else if m.ramSel.toNat ≤ 0xC ∧ m.rtc.isSome = true then .rtc m.ramSel.toNat
      else .absent
    else .absent
  | .mbc5 m => if m.ramEn then c.eramTarget m.ramBank.toNat a else .absent

/-! ## The clock -/

/-- The `ctrl` register as a byte (R670, R671). -/
def RtcRegs.ctrl (r : RtcRegs) : Byte :=
  BitVec.ofBool r.carry ++ BitVec.ofBool r.halt ++ 0#5 ++ BitVec.ofBool r.dayHi

/-- A clock register by selector value 8 to 0xC, stored bits only (R670, R671). -/
def RtcRegs.read (r : RtcRegs) (reg : Nat) : Byte :=
  match reg with
  | 0x8 => r.sec.setWidth 8
  | 0x9 => r.min.setWidth 8
  | 0xA => r.hour.setWidth 8
  | 0xB => r.dayLo
  | _ => r.ctrl

/-- The 9-bit day value (R670). -/
def RtcRegs.day (r : RtcRegs) : Nat := b2n r.dayHi * 256 + r.dayLo.toNat

/-- The live registers after `delta` seconds (R674). -/
def RtcRegs.addSeconds (r : RtcRegs) (delta : Nat) : RtcRegs :=
  let s := r.sec.toNat + delta
  let m := r.min.toNat + s / 60
  let h := r.hour.toNat + m / 60
  let d := r.day + h / 24
  { r with
    sec := BitVec.ofNat 6 (s % 60)
    min := BitVec.ofNat 6 (m % 60)
    hour := BitVec.ofNat 5 (h % 24)
    carry := r.carry || decide (d > 511)
    dayLo := BitVec.ofNat 8 (d % 256)
    dayHi := decide (d % 512 ≥ 256) }

/-- `RtcUpdate()` (R674) at the time `now`; a `now` before the anchor adds nothing. -/
def Rtc.update (t : Rtc) (now : Int) : Rtc :=
  { t with live := if t.live.halt then t.live else t.live.addSeconds (now - t.anchor).toNat, anchor := now }

/-- A write of `sec`, `min`, `hour` or `day_lo` (R672): only while halted. -/
def RtcRegs.writeTime (r : RtcRegs) (reg : Nat) (v : Byte) : RtcRegs :=
  if r.halt then
    match reg with
    | 0x8 => { r with sec := v.extractLsb' 0 6 }
    | 0x9 => { r with min := v.extractLsb' 0 6 }
    | 0xA => { r with hour := v.extractLsb' 0 5 }
    | _ => { r with dayLo := v }
  else r

/-- The day bit and the carry bit of a write of `ctrl` (R672): only while halted. -/
def RtcRegs.writeCtrlBits (r : RtcRegs) (v : Byte) : RtcRegs :=
  if r.halt then { r with dayHi := bit v 0, carry := bit v 7 } else r

/-- `RtcWrite(reg, v)` (R672). A change of the halt bit first runs `RtcUpdate`, which reads `now`. -/
def Rtc.write (t : Rtc) (i : Inputs) (reg : Nat) (v : Byte) : Rtc × Inputs :=
  if reg = 0xC then
    let t1 : Rtc := { t with live := t.live.writeCtrlBits v }
    if bit v 6 != t.live.halt then
      let i' := i.nextNow
      let t2 := t1.update i'.now
      ({ t2 with live := { t2.live with halt := bit v 6 } }, i')
    else (t1, i)
  else ({ t with live := t.live.writeTime reg v }, i)

/-! ## Reads -/

/-- `CartRead(a)` (R650). -/
def Cart.read (c : Cart) (a : Nat) : Byte :=
  if a < 0x8000 then c.rom.read (c.romOffset a)
  else
    match c.ramTarget a, c.mapper with
    | .eram off, _ => c.eram.read off
    | .mbc2 k, .mbc2 m => 0xF#4 ++ m.ram.read k
    | .rtc reg, .mbc3 m => match m.rtc with | some t => t.latched.read reg | none => 0xFF#8
    | _, _ => 0xFF#8

/-! ## Writes -/

/-- The RAM-enable latch after a write of `v` (R657). -/
def ramEnable (old : Bool) (v : Byte) : Bool := if v = 0x0A#8 then true else if v = 0x00#8 then false else old

/-- A control write of type 1 (R661). -/
def Mbc1.control (m : Mbc1) (a : Nat) (v : Byte) : Mbc1 :=
  if a < 0x2000 then { m with ramEn := ramEnable m.ramEn v }
  else if a < 0x4000 then { m with bankLo := v.extractLsb' 0 5 }
  else if a < 0x6000 then { m with bankHi := v.extractLsb' 0 2 }
  else { m with mode := bit v 0 }

/-- A control write of type 2 (R665): told apart by address bit 8. -/
def Mbc2.control (m : Mbc2) (a : Nat) (v : Byte) : Mbc2 :=
  if a < 0x4000 then
    if a / 256 % 2 = 1 then { m with romBank := v.extractLsb' 0 4 } else { m with ramEn := ramEnable m.ramEn v }
  else m

/-- The latch sequence of type 3 (R666): 0x00 then 0x01 with a clock present. -/
def Mbc3.latch (m : Mbc3) (i : Inputs) (v : Byte) : Mbc3 × Inputs :=
  match m.rtc with
  | some t =>
    if m.latchPrev = 0x00#8 ∧ v = 0x01#8 then
      let i' := i.nextNow
      let t1 := t.update i'.now
      ({ m with rtc := some { t1 with latched := t1.live }, latchPrev := v }, i')
    else ({ m with latchPrev := v }, i)
  | none => ({ m with latchPrev := v }, i)

/-- A control write of type 3 (R666). -/
def Mbc3.control (m : Mbc3) (i : Inputs) (a : Nat) (v : Byte) : Mbc3 × Inputs :=
  if a < 0x2000 then ({ m with ramEn := ramEnable m.ramEn v }, i)
  else if a < 0x4000 then ({ m with romBank := v.extractLsb' 0 7 }, i)
  else if a < 0x6000 then ({ m with ramSel := v.extractLsb' 0 4 }, i)
  else m.latch i v

/-- A control write of type 5 (R680). -/
def Mbc5.control (m : Mbc5) (a : Nat) (v : Byte) : Mbc5 :=
  if a < 0x2000 then { m with ramEn := ramEnable m.ramEn v }
  else if a < 0x3000 then { m with romLo := v }
  else if a < 0x4000 then { m with romHi := v.extractLsb' 0 1 }
  else if a < 0x6000 then { m with ramBank := v.extractLsb' 0 4 }
  else m

/-- A write to 0x0000-0x7FFF (R650): mapper state only, never `rom`. -/
def Cart.control (c : Cart) (i : Inputs) (a : Nat) (v : Byte) : Cart × Inputs :=
  match c.mapper with
  | .none => (c, i)
  | .mbc1 m => ({ c with mapper := .mbc1 (m.control a v) }, i)
  | .mbc2 m => ({ c with mapper := .mbc2 (m.control a v) }, i)
  | .mbc3 m => ({ c with mapper := .mbc3 (m.control i a v).1 }, (m.control i a v).2)
  | .mbc5 m => ({ c with mapper := .mbc5 (m.control a v) }, i)

/-- A write to 0xA000-0xBFFF (R658, R665, R668, R672). -/
def Cart.ramWrite (c : Cart) (i : Inputs) (a : Nat) (v : Byte) : Cart × Inputs :=
  match c.ramTarget a, c.mapper with
  | .eram off, _ => ({ c with eram := c.eram.write off v }, i)
  | .mbc2 k, .mbc2 m => ({ c with mapper := .mbc2 { m with ram := m.ram.write k (v.extractLsb' 0 4) } }, i)
  | .rtc reg, .mbc3 m =>
    match m.rtc with
    | some t => ({ c with mapper := .mbc3 { m with rtc := some (t.write i reg v).1 } }, (t.write i reg v).2)
    | none => (c, i)
  | _, _ => (c, i)

/-- `CartWrite(a, v)` (R650); the clock reads the `now` port, so the input ports go along. -/
def Cart.write (c : Cart) (i : Inputs) (a : Nat) (v : Byte) : Cart × Inputs :=
  if a < 0x8000 then c.control i a v else c.ramWrite i a v

end Sys2Proof.Machine
end

