-- ==== Sys2Proof/Machine/Apu.lean ====
section
/-! DEFINITION. The APU (64_apu.md): the dot tick, the frame sequencer, the four channels, the mixer and the sample
output, and the CPU's reads and writes of NR10 to NR52 and wave RAM. -/
namespace Sys2Proof.Machine

open Sys2Proof.Config

/-! ## Channels -/

/-- `wavelength = NRx4[2:0] ++ NRx3` (R580). -/
def wavelength (r3 r4 : Byte) : Nat := slice r4 0 3 * 256 + r3.toNat

/-- `SquareTick(c)` (R591). -/
def SquareCh.tick (c : SquareCh) : SquareCh :=
  if c.en then
    if c.pcnt - 1 = 0 then { c with pcnt := 2048 - wavelength c.r3 c.r4, dutyPos := (c.dutyPos + 1) % 8 }
    else { c with pcnt := c.pcnt - 1 }
  else c

/-- `WaveTick()` (R601). -/
def WaveCh.tick (c : WaveCh) : WaveCh :=
  if c.en then
    if c.pcnt - 1 = 0 then { c with pcnt := 2048 - wavelength c.r3 c.r4, pos := (c.pos + 1) % 32 }
    else { c with pcnt := c.pcnt - 1 }
  else c

/-- The divisor table of the noise channel (R611). -/
def noiseDiv (code : Nat) : Nat :=
  match code with | 0 => 8 | 1 => 16 | 2 => 32 | 3 => 48 | 4 => 64 | 5 => 80 | 6 => 96 | _ => 112

/-- `NoisePeriod()` (R611). -/
def noisePeriod (nr43 : Byte) : Nat := noiseDiv (slice nr43 0 3) <<< slice nr43 4 4

/-- `LfsrStep()` (R612). -/
def lfsrStep (nr43 : Byte) (l : BitVec 15) : BitVec 15 :=
  let b : Bool := Bool.xor (l.getLsbD 0) (l.getLsbD 1)
  let l' := (l >>> 1) ||| (if b then 0x4000#15 else 0#15)
  if bit nr43 3 then (l' &&& 0x7FBF#15) ||| (if b then 0x0040#15 else 0#15) else l'

/-- `NoiseTick()` (R611). -/
def NoiseCh.tick (c : NoiseCh) : NoiseCh :=
  if c.en then
    if c.pcnt - 1 = 0 then { c with pcnt := noisePeriod c.r3, lfsr := lfsrStep c.r3 c.lfsr }
    else { c with pcnt := c.pcnt - 1 }
  else c

/-! ## Frame sequencer -/

/-- The length counter and the enabled flag of a channel in one `LengthTick()` (R587): the channel is disabled when its
counter reaches 0 in this tick (DEDUCED, log entry 18). -/
def lengthStep (r4 : Byte) (len : Nat) (en : Bool) : Nat × Bool :=
  if bit r4 6 && len != 0 then (len - 1, en && len - 1 != 0) else (len, en)

/-- `LengthTick()` (R587). -/
def Apu.lengthTick (a : Apu) : Apu :=
  let s1 := lengthStep a.ch1.r4 a.ch1.len a.ch1.en
  let s2 := lengthStep a.ch2.r4 a.ch2.len a.ch2.en
  let s3 := lengthStep a.ch3.r4 a.ch3.len a.ch3.en
  let s4 := lengthStep a.ch4.r4 a.ch4.len a.ch4.en
  { a with
    ch1 := { a.ch1 with len := s1.1, en := s1.2 }
    ch2 := { a.ch2 with len := s2.1, en := s2.2 }
    ch3 := { a.ch3 with len := s3.1, en := s3.2 }
    ch4 := { a.ch4 with len := s4.1, en := s4.2 } }

/-- The volume and the envelope counter of a channel in one `EnvelopeTick()` (R588). -/
def envelopeStep (r2 : Byte) (vol cnt : Nat) : Nat × Nat :=
  let pace := slice r2 0 3
  if pace = 0 then (vol, cnt)
  else if cnt - 1 = 0 then
    (if bit r2 3 then (if vol < 15 then vol + 1 else vol) else vol - 1, pace)
  else (vol, cnt - 1)

/-- `EnvelopeTick()` (R588). -/
def Apu.envelopeTick (a : Apu) : Apu :=
  let e1 := envelopeStep a.ch1.r2 a.ch1.vol a.ch1.envCnt
  let e2 := envelopeStep a.ch2.r2 a.ch2.vol a.ch2.envCnt
  let e4 := envelopeStep a.ch4.r2 a.ch4.vol a.ch4.envCnt
  { a with
    ch1 := { a.ch1 with vol := e1.1, envCnt := e1.2 }
    ch2 := { a.ch2 with vol := e2.1, envCnt := e2.2 }
    ch4 := { a.ch4 with vol := e4.1, envCnt := e4.2 } }

/-- `wavelength_1 <- new` (R589): NR13 and NR14 bits 2:0. -/
def SquareCh.setWavelength (c : SquareCh) (n : Nat) : SquareCh :=
  { c with r3 := BitVec.ofNat 8 n, r4 := (c.r4 &&& 0xF8#8) ||| BitVec.ofNat 8 (n / 256 % 8) }

/-- Channel 1 when the sweep counter has run out (R589). -/
def sweepStep (nr10 : Byte) (c : SquareCh) : SquareCh :=
  let old := wavelength c.r3 c.r4
  let shift := slice nr10 0 3
  let d := old >>> shift
  if bit nr10 3 then
    if shift != 0 then c.setWavelength (old - d) else c
  else if old + d > 2047 then { c with en := false }
  else if shift != 0 then c.setWavelength (old + d) else c

/-- `SweepTick()` (R589). -/
def Apu.sweepTick (a : Apu) : Apu :=
  let pace := slice a.nr10 4 3
  if pace = 0 then a
  else if a.sweepCnt - 1 = 0 then { a with sweepCnt := pace, ch1 := sweepStep a.nr10 a.ch1 }
  else { a with sweepCnt := a.sweepCnt - 1 }

/-- `FrameSeqStep()` (R586). -/
def Apu.frameSeqStep (a : Apu) : Apu :=
  let s := a.fseqStep
  let a1 : Apu := { a with fseqStep := (s + 1) % 8 }
  let a2 := if s = 0 ∨ s = 2 ∨ s = 4 ∨ s = 6 then a1.lengthTick else a1
  let a3 := if s = 2 ∨ s = 6 then a2.sweepTick else a2
  if s = 7 then a3.envelopeTick else a3

/-! ## Outputs and mixer -/

/-- The duty patterns (R592), steps 0 to 7 of each. -/
def dutyPattern (duty : Nat) : List Nat :=
  match duty with
  | 0 => [0, 0, 0, 0, 0, 0, 0, 1]
  | 1 => [1, 0, 0, 0, 0, 0, 0, 1]
  | 2 => [1, 0, 0, 0, 0, 1, 1, 1]
  | _ => [0, 1, 1, 1, 1, 1, 1, 0]

/-- `Out(c)` of a square channel (R593). -/
def SquareCh.out (c : SquareCh) : Nat :=
  if c.en then (dutyPattern (slice c.r1 6 2)).getD c.dutyPos 0 * c.vol else 0

/-- Sample `k` of the wavetable, high nibble first (R600). -/
def waveSample (wave : Memory) (k : Nat) : Nat :=
  let b := wave.read (k / 2)
  if k % 2 = 0 then slice b 4 4 else slice b 0 4

/-- `LevelShift` (R602). -/
def levelShift (level : Nat) : Nat := match level with | 0 => 4 | 1 => 0 | 2 => 1 | _ => 2

/-- `Out(3)` (R602). -/
def WaveCh.out (wave : Memory) (c : WaveCh) : Nat :=
  if c.en then waveSample wave c.pos >>> levelShift (slice c.r2 5 2) else 0

/-- `Out(4)` (R613). -/
def NoiseCh.out (c : NoiseCh) : Nat := if c.en then (1 - b2n (c.lfsr.getLsbD 0)) * c.vol else 0

/-- One side of the mix before the master volume (R620): the channels whose panning bit is set. -/
def sideSum (wave : Memory) (a : Apu) (pan : Nat) : Nat :=
  (if pan.testBit 0 then a.ch1.out else 0) + (if pan.testBit 1 then a.ch2.out else 0) +
  (if pan.testBit 2 then a.ch3.out wave else 0) + (if pan.testBit 3 then a.ch4.out else 0)

/-- `Mix()` (R620): left, right. -/
def Apu.mix (wave : Memory) (a : Apu) : Nat × Nat :=
  (sideSum wave a (slice a.nr51 4 4) * (slice a.nr50 4 3 + 1),
   sideSum wave a (slice a.nr51 0 4) * (slice a.nr50 0 3 + 1))

/-- One sample pair written to the output buffer (R621). -/
def Apu.putSample (p : Params) (wave : Memory) (a : Apu) : Apu :=
  let m := a.mix wave
  let buf := (a.audioBuf.write (2 * a.audioWr) (BitVec.ofNat 16 m.1)).write (2 * a.audioWr + 1) (BitVec.ofNat 16 m.2)
  if a.audioWr + 1 = p.audioBufSamples then { a with audioBuf := buf, audioWr := 0, audioFull := true }
  else { a with audioBuf := buf, audioWr := a.audioWr + 1 }

/-- `SampleTick()` (R621). -/
def Apu.sampleTick (p : Params) (wave : Memory) (a : Apu) : Apu :=
  if a.sampleCnt + 1 = p.samplePeriod then Apu.putSample p wave { a with sampleCnt := 0 }
  else { a with sampleCnt := a.sampleCnt + 1 }

/-! ## The dot tick -/

/-- The generators in one dot (R585): squares every 4 dots, wave every 2, noise every dot. -/
def Apu.generators (a : Apu) : Apu :=
  let ph := (a.phase + 1) % 4
  { a with
    phase := ph
    ch1 := if ph = 0 then a.ch1.tick else a.ch1
    ch2 := if ph = 0 then a.ch2.tick else a.ch2
    ch3 := if ph % 2 = 0 then a.ch3.tick else a.ch3
    ch4 := a.ch4.tick }

/-- The frame-sequencer divider in one dot (R585). -/
def Apu.sequencer (a : Apu) : Apu :=
  if a.fseqCnt + 1 = fseqPeriodT then Apu.frameSeqStep { a with fseqCnt := 0 }
  else { a with fseqCnt := a.fseqCnt + 1 }

/-- `ApuTick()` (R585). -/
def Apu.tick (p : Params) (wave : Memory) (a : Apu) : Apu :=
  Apu.sampleTick p wave (if a.on then a.generators.sequencer else a)

/-! ## CPU access -/

/-- The registers NR10 to NR51. -/
inductive ApuReg where
  | nr10 | nr11 | nr12 | nr13 | nr14 | nr21 | nr22 | nr23 | nr24 | nr30 | nr31 | nr32 | nr33 | nr34
  | nr41 | nr42 | nr43 | nr44 | nr50 | nr51
  deriving DecidableEq, Repr

/-- What a CPU read of NR10 to NR51 returns: the stored byte with the unreadable bits 1 (10_state.md R29). -/
def Apu.readReg (a : Apu) : ApuReg → Byte
  | .nr10 => a.nr10 ||| 0x80#8
  | .nr11 => a.ch1.r1 ||| 0x3F#8
  | .nr12 => a.ch1.r2
  | .nr13 => 0xFF#8
  | .nr14 => a.ch1.r4 ||| 0xBF#8
  | .nr21 => a.ch2.r1 ||| 0x3F#8
  | .nr22 => a.ch2.r2
  | .nr23 => 0xFF#8
  | .nr24 => a.ch2.r4 ||| 0xBF#8
  | .nr30 => a.ch3.r0 ||| 0x7F#8
  | .nr31 => 0xFF#8
  | .nr32 => a.ch3.r2 ||| 0x9F#8
  | .nr33 => 0xFF#8
  | .nr34 => a.ch3.r4 ||| 0xBF#8
  | .nr41 => 0xFF#8
  | .nr42 => a.ch4.r2
  | .nr43 => a.ch4.r3
  | .nr44 => a.ch4.r4 ||| 0xBF#8
  | .nr50 => a.nr50
  | .nr51 => a.nr51

/-- What a CPU read of NR52 returns (R583). -/
def Apu.readNr52 (a : Apu) : Byte :=
  BitVec.ofBool a.on ++ 0b111#3 ++ BitVec.ofBool a.ch4.en ++ BitVec.ofBool a.ch3.en ++ BitVec.ofBool a.ch2.en ++
    BitVec.ofBool a.ch1.en

/-- The trigger of a square channel (R594 without its sweep line, R595). -/
def SquareCh.trigger (c : SquareCh) : SquareCh :=
  if c.r2 = 0#8 then c
  else { c with en := true, pcnt := 2048 - wavelength c.r3 c.r4, dutyPos := 0, vol := slice c.r2 4 4,
                envCnt := slice c.r2 0 3, len := 64 - slice c.r1 0 6 }

/-- The trigger of the wave channel (R603). -/
def WaveCh.trigger (c : WaveCh) : WaveCh :=
  if bit c.r0 7 then { c with en := true, pcnt := 2048 - wavelength c.r3 c.r4, pos := 0, len := 256 - c.r1.toNat }
  else c

/-- The trigger of the noise channel (R614). -/
def NoiseCh.trigger (c : NoiseCh) : NoiseCh :=
  if c.r2 = 0#8 then c
  else { c with en := true, pcnt := noisePeriod c.r3, lfsr := 0x7FFF#15, vol := slice c.r2 4 4,
                envCnt := slice c.r2 0 3, len := 64 - slice c.r1 0 6 }

/-- A write of NRc1 of a square channel (R596). -/
def SquareCh.writeR1 (c : SquareCh) (v : Byte) : SquareCh := { c with r1 := v, len := 64 - slice v 0 6 }
/-- A write of NRc2 of a square channel (R597): the byte 0 turns the converter and the channel off. -/
def SquareCh.writeR2 (c : SquareCh) (v : Byte) : SquareCh := { c with r2 := v, en := c.en && v != 0#8 }
/-- A write of NRc4 of a square channel (R598). -/
def SquareCh.writeR4 (c : SquareCh) (v : Byte) : SquareCh :=
  let c' : SquareCh := { c with r4 := v &&& 0x47#8 }
  if bit v 7 then c'.trigger else c'

/-- A write of NR34 (R598, R603). -/
def WaveCh.writeR4 (c : WaveCh) (v : Byte) : WaveCh :=
  let c' : WaveCh := { c with r4 := v &&& 0x47#8 }
  if bit v 7 then c'.trigger else c'

/-- A write of NR44 (R598, R614). -/
def NoiseCh.writeR4 (c : NoiseCh) (v : Byte) : NoiseCh :=
  let c' : NoiseCh := { c with r4 := v &&& 0x40#8 }
  if bit v 7 then c'.trigger else c'

/-- A CPU write of NR10 to NR51 while the APU is on (R582, stored bits 10_state.md R29). The trigger of channel 1 also
reloads the sweep counter when the converter is on (R594). -/
def Apu.storeReg (a : Apu) (r : ApuReg) (v : Byte) : Apu :=
  match r with
  | .nr10 => { a with nr10 := v &&& 0x7F#8 }
  | .nr11 => { a with ch1 := a.ch1.writeR1 v }
  | .nr12 => { a with ch1 := a.ch1.writeR2 v }
  | .nr13 => { a with ch1 := { a.ch1 with r3 := v } }
  | .nr14 => { a with ch1 := a.ch1.writeR4 v,
                      sweepCnt := if bit v 7 && a.ch1.r2 != 0#8 then slice a.nr10 4 3 else a.sweepCnt }
  | .nr21 => { a with ch2 := a.ch2.writeR1 v }
  | .nr22 => { a with ch2 := a.ch2.writeR2 v }
  | .nr23 => { a with ch2 := { a.ch2 with r3 := v } }
  | .nr24 => { a with ch2 := a.ch2.writeR4 v }
  | .nr30 => { a with ch3 := { a.ch3 with r0 := v &&& 0x80#8, en := a.ch3.en && bit v 7 } }
  | .nr31 => { a with ch3 := { a.ch3 with r1 := v, len := 256 - v.toNat } }
  | .nr32 => { a with ch3 := { a.ch3 with r2 := v &&& 0x60#8 } }
  | .nr33 => { a with ch3 := { a.ch3 with r3 := v } }
  | .nr34 => { a with ch3 := a.ch3.writeR4 v }
  | .nr41 => { a with ch4 := { a.ch4 with r1 := v &&& 0x3F#8, len := 64 - slice v 0 6 } }
  | .nr42 => { a with ch4 := { a.ch4 with r2 := v, en := a.ch4.en && v != 0#8 } }
  | .nr43 => { a with ch4 := { a.ch4 with r3 := v } }
  | .nr44 => { a with ch4 := a.ch4.writeR4 v }
  | .nr50 => { a with nr50 := v }
  | .nr51 => { a with nr51 := v }

/-- A CPU write of NR10 to NR51 (R582): ignored while the APU is off. -/
def Apu.writeReg (a : Apu) (r : ApuReg) (v : Byte) : Apu := if a.on then a.storeReg r v else a

/-- Turning the APU off (R630). -/
def Apu.powerOff (a : Apu) : Apu :=
  { a with
    on := false
    nr10 := 0#8
    ch1 := ⟨0#8, 0#8, 0#8, 0#8, false, 0, 0, 0, 0, 0⟩
    ch2 := ⟨0#8, 0#8, 0#8, 0#8, false, 0, 0, 0, 0, 0⟩
    ch3 := ⟨0#8, 0#8, 0#8, 0#8, 0#8, false, 0, 0, 0⟩
    ch4 := ⟨0#8, 0#8, 0#8, 0#8, false, 0, 0x7FFF#15, 0, 0, 0⟩
    nr50 := 0#8
    nr51 := 0#8
    sweepCnt := 0 }

/-- A CPU write of NR52 (R583): only bit 7 acts, and only when it changes. -/
def Apu.writeNr52 (a : Apu) (v : Byte) : Apu :=
  if bit v 7 then
    if a.on then a else { a with on := true, fseqCnt := 0, fseqStep := 0, phase := 0 }
  else if a.on then a.powerOff else a

/-- A CPU read of wave RAM (R628). -/
def Apu.readWave (a : Apu) (wave : Memory) (k : Nat) : Byte := if a.ch3.en then 0xFF#8 else wave.read k

/-- The wave RAM after a CPU write (R628). -/
def Apu.writeWave (a : Apu) (wave : Memory) (k : Nat) (v : Byte) : Memory := if a.ch3.en then wave else wave.write k v

end Sys2Proof.Machine
end

