-- ==== Sys2Proof/Machine/Ppu.lean ====
section
/-! DEFINITION. The PPU (63_ppu.md): OAM scan, the pixel of a dot, the dot state machine, the LCD switch, and the CPU's
view of its registers. The PPU reads vram, oam and colour RAM directly and is never blocked (20_memory.md R101). -/
namespace Sys2Proof.Machine

open Sys2Proof.Config

/-! ## Register fields (R513) -/

/-- LCDC bit 7. -/
def Ppu.lcdOn (p : Ppu) : Bool := bit p.lcdc 7

/-- The sprite height that LCDC bit 2 selects (R536, R545). -/
def Ppu.sprHeight (p : Ppu) : Nat := if bit p.lcdc 2 then 16 else 8

/-- STAT bits 1:0 for a mode (R512). -/
def PpuMode.num : PpuMode → Nat
  | .hblank => 0 | .vblank => 1 | .oamScan => 2 | .transfer => 3

/-- `VramBlocked()` (20_memory.md R114); also the condition under which palette writes are dropped (R515, R561). -/
def Ppu.vramBlocked (p : Ppu) : Bool := p.lcdOn && p.mode == .transfer

/-- The PPU's part of `OamBlocked()` (20_memory.md R117). -/
def Ppu.oamBlocked (p : Ppu) : Bool := p.lcdOn && (p.mode == .oamScan || p.mode == .transfer)

/-! ## OAM scan (R536) -/

/-- OAM entry `i` (R535). -/
def oamEntry (oam : Memory) (i : Nat) : Sprite :=
  ⟨oam.read (4 * i), oam.read (4 * i + 1), oam.read (4 * i + 2), oam.read (4 * i + 3), i⟩

/-- The entry overlaps scanline `ly` with sprites of height `h` (R536), compared as integers. -/
def Sprite.onLine (t : Sprite) (ly h : Nat) : Bool := decide (t.y.toNat ≤ ly + 16 ∧ ly + 16 < t.y.toNat + h)

/-- A candidate put into a list in ascending `x`, before the entries of equal `x` (they have a higher OAM index). -/
def insertSprite (t : Sprite) : List Sprite → List Sprite
  | [] => [t]
  | u :: us => if t.x.toNat ≤ u.x.toNat then t :: u :: us else u :: insertSprite t us

/-- The stable sort by ascending `x` (R536). -/
def sortSprites : List Sprite → List Sprite
  | [] => []
  | t :: ts => insertSprite t (sortSprites ts)

/-- The 40 OAM indices. -/
def oamIndices : List Nat := List.range 40

/-- `OamScan()` (R536): the first ten entries in OAM order that overlap the scanline, then sorted. -/
def oamScan (oam : Memory) (ly h : Nat) : List Sprite :=
  sortSprites (((oamIndices.map (oamEntry oam)).filter (fun t => t.onLine ly h)).take 10)

/-! ## The pixel of a dot -/

/-- `vram[bank][off]`. -/
def vramByte (vram : Memory) (bank off : Nat) : Byte := vram.read (bank * vramBankSize + off)

/-- `TilePixel(bank, off, row, col)` (R542). -/
def tilePixel (vram : Memory) (bank off row col : Nat) : Nat :=
  let lo := vramByte vram bank (off + 2 * row)
  let hi := vramByte vram bank (off + 2 * row + 1)
  2 * b2n (bit hi (7 - col)) + b2n (bit lo (7 - col))

/-- `BgTileOffset(tile)` (R542): LCDC bit 4 selects unsigned or signed addressing. -/
def bgTileOffset (lcdc tile : Byte) : Nat :=
  if bit lcdc 4 then tile.toNat * 16
  else if tile.toNat < 128 then 0x1000 + tile.toNat * 16 else 0x1000 + tile.toNat * 16 - 0x1000

/-- `InWindow(px)` (R544). -/
def Ppu.inWindow (cgb : Bool) (p : Ppu) (px : Nat) : Bool :=
  bit p.lcdc 5 && (cgb || bit p.lcdc 0) && p.winYTrig && decide (p.wx.toNat ≤ px + 7)

/-- `BgWinPixel(px)` (R541): the colour index and the attribute byte. -/
def bgWinPixel (cgb : Bool) (vram : Memory) (p : Ppu) (px : Nat) : Nat × Byte :=
  let w := p.inWindow cgb px
  let x := if w then px + 7 - p.wx.toNat else (px + p.scx.toNat) % 256
  let y := if w then p.winLine.toNat else (p.ly + p.scy.toNat) % 256
  let mapSel := if w then bit p.lcdc 6 else bit p.lcdc 3
  let off := (if mapSel then 0x1C00 else 0x1800) + y / 8 * 32 + x / 8
  let tile := vramByte vram 0 off
  let battr := if cgb then vramByte vram 1 off else 0x00#8
  let row := if bit battr 6 then 7 - y % 8 else y % 8
  let col := if bit battr 5 then 7 - x % 8 else x % 8
  let idx := tilePixel vram (b2n (bit battr 3)) (bgTileOffset p.lcdc tile) row col
  (if !cgb && !bit p.lcdc 0 then 0 else idx, battr)

/-- The colour index of a sprite that covers column `px` at distance `dx` from its left edge (R545). The row is
`(ly + 16 - y) mod h`; 272 = 16 + 256 keeps it a natural number for every byte `y` (log entry 13). -/
def spriteIndex (cgb : Bool) (vram : Memory) (p : Ppu) (t : Sprite) (dx : Nat) : Nat :=
  let h := p.sprHeight
  let row0 := (p.ly + 272 - t.y.toNat) % h
  let row := if bit t.attr 6 then h - 1 - row0 else row0
  let tile := if h = 16 then t.tile.toNat / 2 * 2 + row / 8 else t.tile.toNat
  let col := if bit t.attr 5 then 7 - dx else dx
  let bank := if cgb then b2n (bit t.attr 3) else 0
  tilePixel vram bank (tile * 16) (row % 8) col

/-- `SpritePixel(px)` (R545) over a candidate list: the first candidate with a colour index that is not 0. -/
def firstSprite (cgb : Bool) (vram : Memory) (p : Ppu) (px : Nat) : List Sprite → Option (Nat × Byte)
  | [] => none
  | t :: ts =>
    if t.x.toNat ≤ px + 8 ∧ px + 8 ≤ t.x.toNat + 7 then
      let sidx := spriteIndex cgb vram p t (px + 8 - t.x.toNat)
      if sidx != 0 then some (sidx, t.attr) else firstSprite cgb vram p px ts
    else firstSprite cgb vram p px ts

/-- `SpritePixel(px)` (R545). -/
def spritePixel (cgb : Bool) (vram : Memory) (p : Ppu) (px : Nat) : Option (Nat × Byte) :=
  if bit p.lcdc 1 then firstSprite cgb vram p px p.spr else none

/-- `P[2*idx+1 : 2*idx]` of a shade register (R547). -/
def shade (pal : Byte) (idx : Nat) : BitVec 16 := BitVec.ofNat 16 (pal.toNat / 2 ^ (2 * idx) % 4)

/-- Entry `k` of a colour RAM (R548, 10_state.md R28): 15 bits, low byte first. -/
def colour (pal : Memory) (k : Nat) : BitVec 16 :=
  pair (pal.read (2 * k + 1)) (pal.read (2 * k)) &&& 0x7FFF#16

/-- `BgColour` (R547, R548). -/
def bgColour (cgb : Bool) (bgpal : Memory) (p : Ppu) (battr : Byte) (idx : Nat) : BitVec 16 :=
  if cgb then colour bgpal (slice battr 0 3 * 4 + idx) else shade p.bgp idx

/-- `SpriteColour` (R547, R548). -/
def spriteColour (cgb : Bool) (obpal : Memory) (p : Ppu) (attr : Byte) (idx : Nat) : BitVec 16 :=
  if cgb then colour obpal (slice attr 0 3 * 4 + idx) else shade (if bit attr 4 then p.obp1 else p.obp0) idx

/-- The sprite wins over the background (R546). -/
def spriteWins (cgb : Bool) (lcdc : Byte) (bidx : Nat) (battr sattr : Byte) : Bool :=
  if cgb then !bit lcdc 0 || bidx == 0 || (!bit sattr 7 && !bit battr 7)
  else !bit sattr 7 || bidx == 0

/-- `Pixel(px)` (R546). -/
def pixel (s : State) (px : Nat) : BitVec 16 :=
  let b := bgWinPixel s.cgb s.vram s.ppu px
  match spritePixel s.cgb s.vram s.ppu px with
  | none => bgColour s.cgb s.bgpal s.ppu b.2 b.1
  | some (sidx, sattr) =>
    if spriteWins s.cgb s.ppu.lcdc b.1 b.2 sattr then spriteColour s.cgb s.obpal s.ppu sattr sidx
    else bgColour s.cgb s.bgpal s.ppu b.2 b.1

/-! ## The dot state machine -/

/-- One pixel output, and the end of mode 3 when it was the last (R540, R541). -/
def Ppu.outPixel (s : State) (p : Ppu) : Ppu :=
  let p1 : Ppu := if p.px < linePixels then
      { p with fb := p.fb.write (p.ly * linePixels + p.px) (pixel s p.px),
               winDrawn := p.winDrawn || p.inWindow s.cgb p.px,
               px := p.px + 1 }
    else p
  if p1.px = linePixels then { p1 with m3Done := true } else p1

/-- `PixelStep()` (R540). -/
def pixelStep (s : State) : Ppu :=
  if s.ppu.m3Skip > 0 then { s.ppu with m3Skip := s.ppu.m3Skip - 1 } else s.ppu.outPixel s

/-- `Mode2Entry()` (R521). -/
def Ppu.mode2Entry (oam : Memory) (p : Ppu) : Ppu :=
  { p with mode := .oamScan, winYTrig := p.winYTrig || p.ly == p.wy.toNat, spr := oamScan oam p.ly p.sprHeight }

/-- `StartLine()` (R522), entering mode 3; `extra` is `Mode3Extra(st)`. -/
def Ppu.startLine (lead extra : Nat) (p : Ppu) : Ppu :=
  { p with mode := .transfer, px := 0, m3Done := false, winDrawn := false, m3Skip := lead + slice p.scx 0 3 + extra }

/-- `HBlankEntry()` (R526, R527), entering mode 0; the request to the HDMA engine is the tick's (R495). -/
def Ppu.hblankEntry (p : Ppu) : Ppu :=
  { p with mode := .hblank, winLine := if p.winDrawn then p.winLine + 1#8 else p.winLine }

/-- The next scanline, and the frame wrap (R520, R524). -/
def Ppu.nextLine (p : Ppu) : Ppu :=
  if p.ly + 1 = lines then { p with lx := 0, ly := 0, frameDone := true, winLine := 0#8, winYTrig := false }
  else { p with lx := 0, ly := p.ly + 1 }

/-- What one dot of the PPU does: its new state, and what happened in it. -/
structure PpuOut where
  ppu : Ppu
  /-- `RequestInterrupt(0)` -/
  vblank : Bool
  /-- `HBlankEntry()` ran -/
  hblank : Bool
  /-- `StartLine()` ran -/
  lineStart : Bool
  deriving DecidableEq, Repr

/-- The entry into a scanline that has just become `p.ly` (R520, R521, R523). -/
def Ppu.lineEntry (oam : Memory) (p : Ppu) : PpuOut :=
  if p.ly < visibleLines then ⟨p.mode2Entry oam, false, false, false⟩
  else if p.ly = visibleLines then ⟨{ p with mode := .vblank }, true, false, false⟩
  else ⟨p, false, false, false⟩

/-- `Mode3Extra(st)` at the next line start (R522, log entry 3). -/
def State.mode3Extra (s : State) : Nat := s.inputs.mode3In.headD s.params.mode3Extra

/-- The dot count and the transitions of one dot, after the pixel (R520). -/
def Ppu.advance (s : State) (p : Ppu) : PpuOut :=
  let p1 : Ppu := { p with lx := p.lx + 1 }
  if p.lx + 1 = lineT then p1.nextLine.lineEntry s.oam
  else if p.lx + 1 = mode2T ∧ p.ly < visibleLines then
    ⟨p1.startLine s.params.mode3Lead s.mode3Extra, false, false, true⟩
  else if p.mode = .transfer ∧ p.m3Done = true then ⟨p1.hblankEntry, false, true, false⟩
  else ⟨p1, false, false, false⟩

/-- `PpuTick()` (R520, R530). -/
def ppuTick (s : State) : PpuOut :=
  if s.ppu.lcdOn then
    Ppu.advance s (if s.ppu.mode = .transfer then pixelStep s else s.ppu)
  else ⟨s.ppu, false, false, false⟩

/-! ## CPU access -/

/-- What a CPU read of STAT returns (R514). -/
def Ppu.readStat (p : Ppu) : Byte :=
  0b1#1 ++ p.statEn ++ BitVec.ofBool (p.ly == p.lyc.toNat) ++ BitVec.ofNat 2 p.mode.num

/-- A CPU write of STAT (R514). -/
def Ppu.writeStat (p : Ppu) (v : Byte) : Ppu := { p with statEn := v.extractLsb' 3 4 }

/-- The LCD disable (R528), after LCDC has been stored. -/
def Ppu.lcdDisable (p : Ppu) : Ppu := { p with mode := .hblank, ly := 0, lx := 0, winLine := 0#8, winYTrig := false }

/-- The LCD enable (R529), after LCDC has been stored. -/
def Ppu.lcdEnable (oam : Memory) (p : Ppu) : Ppu :=
  Ppu.mode2Entry oam { p with ly := 0, lx := 0, px := 0, m3Skip := 0, m3Done := false, winLine := 0#8,
                              winYTrig := false, winDrawn := false }

/-- A CPU write of LCDC (R513, R528, R529). -/
def Ppu.writeLcdc (oam : Memory) (p : Ppu) (v : Byte) : Ppu :=
  let p1 : Ppu := { p with lcdc := v }
  if bit p.lcdc 7 && !bit v 7 then p1.lcdDisable
  else if !bit p.lcdc 7 && bit v 7 then p1.lcdEnable oam
  else p1

/-- A CPU write of BCPS or OCPS stores bits 7 and 5:0 (R560). -/
def cpsStored (v : Byte) : Byte := v &&& 0xBF#8

/-- The byte index of BCPS or OCPS (R560). -/
def cpsIndex (r : Byte) : Nat := slice r 0 6

/-- BCPS or OCPS after a write of its data port (R561): the index advances when bit 7 is 1. -/
def cpsAfterWrite (r : Byte) : Byte :=
  if bit r 7 then 0x80#8 ||| BitVec.ofNat 8 ((cpsIndex r + 1) % 64) else r

end Sys2Proof.Machine
end

