-- ==== Sys2Proof/Machine/Io.lean ====
section
/-! DEFINITION. The I/O register file 0xFF00-0xFF7F (10_state.md R29; 20_memory.md R120): the register at an address, what
a CPU read returns and what a CPU write does. Reads have no side effect. -/
namespace Sys2Proof.Machine

open Sys2Proof.Config

/-- The registers of R29. -/
inductive IoReg where
  | p1 | sb | sc | div | tima | tma | tac | if_
  | apu (r : ApuReg) | nr52 | wave (k : Nat)
  | lcdc | stat | scy | scx | ly | lyc | dma | bgp | obp0 | obp1 | wy | wx
  | key1 | vbk | hdma1 | hdma2 | hdma3 | hdma4 | hdma5 | bcps | bcpd | ocps | ocpd | svbk
  deriving DecidableEq, Repr

/-- The low address byte of each register below wave RAM (R29), in address order. -/
def ioTable0 : List (Nat × IoReg) := [
  (0x00, .p1), (0x01, .sb), (0x02, .sc), (0x04, .div), (0x05, .tima), (0x06, .tma),
  (0x07, .tac), (0x0F, .if_), (0x10, .apu .nr10), (0x11, .apu .nr11), (0x12, .apu .nr12), (0x13, .apu .nr13),
  (0x14, .apu .nr14), (0x16, .apu .nr21), (0x17, .apu .nr22), (0x18, .apu .nr23), (0x19, .apu .nr24), (0x1A, .apu .nr30),
  (0x1B, .apu .nr31), (0x1C, .apu .nr32), (0x1D, .apu .nr33), (0x1E, .apu .nr34), (0x20, .apu .nr41), (0x21, .apu .nr42),
  (0x22, .apu .nr43), (0x23, .apu .nr44), (0x24, .apu .nr50), (0x25, .apu .nr51), (0x26, .nr52)]

/-- The low address byte of each register above wave RAM (R29), in address order. -/
def ioTable4 : List (Nat × IoReg) := [
  (0x40, .lcdc), (0x41, .stat), (0x42, .scy), (0x43, .scx), (0x44, .ly), (0x45, .lyc),
  (0x46, .dma), (0x47, .bgp), (0x48, .obp0), (0x49, .obp1), (0x4A, .wy), (0x4B, .wx),
  (0x4D, .key1), (0x4F, .vbk), (0x51, .hdma1), (0x52, .hdma2), (0x53, .hdma3), (0x54, .hdma4),
  (0x55, .hdma5), (0x68, .bcps), (0x69, .bcpd), (0x6A, .ocps), (0x6B, .ocpd), (0x70, .svbk)]

/-- The registers marked "ext" in R29: they exist in extended mode only. -/
def IoReg.isExt : IoReg → Bool
  | .key1 | .vbk | .hdma1 | .hdma2 | .hdma3 | .hdma4 | .hdma5 | .bcps | .bcpd | .ocps | .ocpd | .svbk => true
  | _ => false

/-- The entry of a table for a key. -/
def ioFind (lo : Nat) : List (Nat × IoReg) → Option IoReg
  | [] => none
  | (k, r) :: t => if lo = k then some r else ioFind lo t

/-- The register at `0xFF00 + lo`, if the mode has one there (R29). -/
def ioRegAt (cgb : Bool) (lo : Nat) : Option IoReg :=
  if 0x30 ≤ lo ∧ lo < 0x40 then some (.wave (lo - 0x30))
  else
    match ioFind lo (if lo < 0x30 then ioTable0 else ioTable4) with
    | some r => if r.isExt && !cgb then none else some r
    | none => none

/-! ## Reads -/

/-- HDMA5 as a CPU read returns it (62_dma_hdma.md R496). -/
def Hdma.readHdma5 (d : Hdma) : Byte := BitVec.ofBool (d.mode == .idle) ++ d.left

/-- What a CPU read of a register returns (R29, column "read returns"). -/
def ioReadReg (s : State) : IoReg → Byte
  | .p1 => s.joy.readP1
  | .sb => s.serial.sb
  | .sc => s.serial.readSc s.cgb
  | .div => hiByte s.timer.div16
  | .tima => s.timer.tima
  | .tma => s.timer.tma
  | .tac => 0b11111#5 ++ s.timer.tac
  | .if_ => s.irq.readIf
  | .apu r => s.apu.readReg r
  | .nr52 => s.apu.readNr52
  | .wave k => s.apu.readWave s.wave k
  | .lcdc => s.ppu.lcdc
  | .stat => s.ppu.readStat
  | .scy => s.ppu.scy
  | .scx => s.ppu.scx
  | .ly => BitVec.ofNat 8 s.ppu.ly
  | .lyc => s.ppu.lyc
  | .dma => s.dma.reg
  | .bgp => s.ppu.bgp
  | .obp0 => s.ppu.obp0
  | .obp1 => s.ppu.obp1
  | .wy => s.ppu.wy
  | .wx => s.ppu.wx
  | .key1 => BitVec.ofBool s.speed.doubleSpeed ++ 0b111111#6 ++ BitVec.ofBool s.speed.prepare
  | .vbk => 0b1111111#7 ++ s.banks.vbk
  | .hdma1 | .hdma2 | .hdma3 | .hdma4 => 0xFF#8
  | .hdma5 => s.hdma.readHdma5
  | .bcps => s.ppu.bcps ||| 0x40#8
  | .bcpd => s.bgpal.read (cpsIndex s.ppu.bcps)
  | .ocps => s.ppu.ocps ||| 0x40#8
  | .ocpd => s.obpal.read (cpsIndex s.ppu.ocps)
  | .svbk => 0b11111#5 ++ s.banks.svbk

/-- `IoRead(0xFF00 + lo)` (R120): an address without a register reads 0xFF (R29). -/
def ioRead (s : State) (lo : Nat) : Byte :=
  match ioRegAt s.cgb lo with
  | some r => ioReadReg s r
  | none => 0xFF#8

/-! ## Writes -/

/-- A write of the DMA register starts or restarts a transfer (R481). -/
def OamDma.start (v : Byte) : OamDma := ⟨v, true, pair v 0x00#8, 0⟩

/-- A write of HDMA1 (R491). -/
def Hdma.writeSrcHi (d : Hdma) (v : Byte) : Hdma := { d with src := pair v (loByte d.src) }
/-- A write of HDMA2 (R491). -/
def Hdma.writeSrcLo (d : Hdma) (v : Byte) : Hdma := { d with src := pair (hiByte d.src) (v &&& 0xF0#8) }
/-- A write of HDMA3 (R491). -/
def Hdma.writeDstHi (d : Hdma) (v : Byte) : Hdma := { d with dst := pair (0x80#8 ||| (v &&& 0x1F#8)) (loByte d.dst) }
/-- A write of HDMA4 (R491). -/
def Hdma.writeDstLo (d : Hdma) (v : Byte) : Hdma := { d with dst := pair (hiByte d.dst) (v &&& 0xF0#8) }

/-- A write of HDMA5 (R492): ends an HBlank transfer, or starts a transfer. -/
def Hdma.control (d : Hdma) (v : Byte) : Hdma :=
  if d.mode = .hblank ∧ bit v 7 = false then { d with mode := .idle, blockReq := false }
  else { d with left := v.extractLsb' 0 7, byte := 0, blockReq := false,
                mode := if bit v 7 then .hblank else .general }

/-- A palette write is dropped: the register is in `PAL_BLOCK_SET` and the PPU is in mode 3 with the LCD on (R515,
R561). -/
def palBlocked (s : State) (inSet : Bool) : Bool := inSet && s.ppu.vramBlocked

/-- A CPU write of a register (R29, columns "write stores" and "behaviour"). -/
def ioWriteReg (s : State) (r : IoReg) (v : Byte) : State :=
  match r with
  | .p1 => { s with joy := s.joy.writeP1 v }
  | .sb => { s with serial := { s.serial with sb := v } }
  | .sc => { s with serial := s.serial.writeSc s.cgb v }
  | .div => { s with timer := s.timer.divReset }
  | .tima => { s with timer := { s.timer with tima := v } }
  | .tma => { s with timer := { s.timer with tma := v } }
  | .tac => { s with timer := s.timer.writeTac v }
  | .if_ => { s with irq := s.irq.writeIf v }
  | .apu r => { s with apu := s.apu.writeReg r v }
  | .nr52 => { s with apu := s.apu.writeNr52 v }
  | .wave k => { s with wave := s.apu.writeWave s.wave k v }
  | .lcdc => { s with ppu := s.ppu.writeLcdc s.oam v }
  | .stat => { s with ppu := s.ppu.writeStat v }
  | .scy => { s with ppu := { s.ppu with scy := v } }
  | .scx => { s with ppu := { s.ppu with scx := v } }
  | .ly => s
  | .lyc => { s with ppu := { s.ppu with lyc := v } }
  | .dma => { s with dma := OamDma.start v }
  | .bgp => { s with ppu := { s.ppu with bgp := if palBlocked s s.params.palBlock.bgp then s.ppu.bgp else v } }
  | .obp0 => { s with ppu := { s.ppu with obp0 := if palBlocked s s.params.palBlock.obp0 then s.ppu.obp0 else v } }
  | .obp1 => { s with ppu := { s.ppu with obp1 := if palBlocked s s.params.palBlock.obp1 then s.ppu.obp1 else v } }
  | .wy => { s with ppu := { s.ppu with wy := v } }
  | .wx => { s with ppu := { s.ppu with wx := v } }
  | .key1 => { s with speed := { s.speed with prepare := bit v 0 } }
  | .vbk => { s with banks := { s.banks with vbk := v.extractLsb' 0 1 } }
  | .hdma1 => { s with hdma := s.hdma.writeSrcHi v }
  | .hdma2 => { s with hdma := s.hdma.writeSrcLo v }
  | .hdma3 => { s with hdma := s.hdma.writeDstHi v }
  | .hdma4 => { s with hdma := s.hdma.writeDstLo v }
  | .hdma5 => { s with hdma := s.hdma.control v }
  | .bcps => { s with ppu := { s.ppu with bcps := cpsStored v } }
  | .bcpd =>
    { s with
      bgpal := if palBlocked s s.params.palBlock.bcpd then s.bgpal else s.bgpal.write (cpsIndex s.ppu.bcps) v
      ppu := { s.ppu with bcps := cpsAfterWrite s.ppu.bcps } }
  | .ocps => { s with ppu := { s.ppu with ocps := cpsStored v } }
  | .ocpd =>
    { s with
      obpal := if palBlocked s s.params.palBlock.ocpd then s.obpal else s.obpal.write (cpsIndex s.ppu.ocps) v
      ppu := { s.ppu with ocps := cpsAfterWrite s.ppu.ocps } }
  | .svbk => { s with banks := { s.banks with svbk := v.extractLsb' 0 3 } }

/-- `IoWrite(0xFF00 + lo, v)` (R120): a write where there is no register is ignored (R29). -/
def ioWrite (s : State) (lo : Nat) (v : Byte) : State :=
  match ioRegAt s.cgb lo with
  | some r => ioWriteReg s r v
  | none => s

end Sys2Proof.Machine
end

