-- ==== Sys2Proof/Machine/Bus.lean ====
section
/-! DEFINITION. The Bus (20_memory.md): the address decode with its blocking rules, the OAM DMA and HDMA engines
(62_dma_hdma.md), and the passing of one M-cycle in every unit but the CPU. -/
namespace Sys2Proof.Machine

open Sys2Proof.Config

/-! ## The address decode -/

/-- What a 16-bit address reaches (R110 to R122), with the offset in that range. -/
inductive Region where
  | rom (a : Nat) | vram (off : Nat) | cartRam (a : Nat) | wram0 (off : Nat) | wramN (off : Nat)
  | oam (off : Nat) | unusable | io (lo : Nat) | hram (off : Nat) | ie
  deriving DecidableEq, Repr

/-- The echo of work RAM (R116): 0xE000-0xFDFF is 0xC000-0xDDFF. -/
def unEcho (a : Nat) : Nat := if 0xE000 ≤ a ∧ a < 0xFE00 then a - 0x2000 else a

/-- The decode of an address outside the echo. -/
def regionOfPlain (a : Nat) : Region :=
  if a < 0x8000 then .rom a
  else if a < 0xA000 then .vram (a - 0x8000)
  else if a < 0xC000 then .cartRam a
  else if a < 0xD000 then .wram0 (a - 0xC000)
  else if a < 0xE000 then .wramN (a - 0xD000)
  else if a < 0xFEA0 then .oam (a - 0xFE00)
  else if a < 0xFF00 then .unusable
  else if a < 0xFF80 then .io (a - 0xFF00)
  else if a < 0xFFFF then .hram (a - 0xFF80)
  else .ie

/-- The address decode (R110 to R122). -/
def regionOf (a : Word) : Region := regionOfPlain (unEcho a.toNat)

/-- The offset in `vram` behind the bank selector (R124): bank 0 in monochrome mode, which has one bank (R128). -/
def State.vramOff (s : State) (off : Nat) : Nat := (if s.cgb then s.banks.vbk.toNat else 0) * vramBankSize + off

/-- `WBank()` (R126). -/
def State.wBank (s : State) : Nat := if s.cgb then orOne s.banks.svbk.toNat else 1

/-- The offset in `wram` for an offset in 0xD000-0xDFFF (R115, R126). -/
def State.wramOff (s : State) (off : Nat) : Nat := s.wBank * wramBankSize + off

/-- `RawRead` of a decoded address (R112). -/
def rawReadRegion (s : State) : Region → Byte
  | .rom a => s.cart.read a
  | .vram off => s.vram.read (s.vramOff off)
  | .cartRam a => s.cart.read a
  | .wram0 off => s.wram.read off
  | .wramN off => s.wram.read (s.wramOff off)
  | .oam off => s.oam.read off
  | .unusable => 0xFF#8
  | .io lo => ioRead s lo
  | .hram off => s.hram.read off
  | .ie => s.irq.ie

/-- `RawRead(a)` (R112): the decode without blocking. -/
def rawRead (s : State) (a : Word) : Byte := rawReadRegion s (regionOf a)

/-- `OamBlocked()` (R117). -/
def oamBlocked (s : State) : Bool := s.ppu.oamBlocked || s.dma.active

/-- A CPU read of the address is blocked (R110, R114, R117, R130). -/
def readBlocked (s : State) (a : Word) : Bool :=
  (s.dma.active && decide (a.toNat < 0xFF00)) ||
  (decide (0x8000 ≤ a.toNat ∧ a.toNat ≤ 0x9FFF) && s.ppu.vramBlocked) ||
  (decide (0xFE00 ≤ a.toNat ∧ a.toNat ≤ 0xFE9F) && oamBlocked s)

/-- `BusRead(a)` (R110). -/
def busRead (s : State) (a : Word) : Byte := if readBlocked s a then 0xFF#8 else rawRead s a

/-- `BusWrite` of a decoded address (R111). -/
def busWriteRegion (s : State) (r : Region) (v : Byte) : State :=
  match r with
  | .rom a => { s with cart := (s.cart.write s.inputs a v).1, inputs := (s.cart.write s.inputs a v).2 }
  | .vram off => { s with vram := if s.ppu.vramBlocked then s.vram else s.vram.write (s.vramOff off) v }
  | .cartRam a => { s with cart := (s.cart.write s.inputs a v).1, inputs := (s.cart.write s.inputs a v).2 }
  | .wram0 off => { s with wram := s.wram.write off v }
  | .wramN off => { s with wram := s.wram.write (s.wramOff off) v }
  | .oam off => { s with oam := if oamBlocked s then s.oam else s.oam.write off v }
  | .unusable => s
  | .io lo => ioWrite s lo v
  | .hram off => { s with hram := s.hram.write off v }
  | .ie => { s with irq := { s.irq with ie := v } }

/-- `BusWrite(a, v)` (R111). -/
def busWrite (s : State) (a : Word) (v : Byte) : State := busWriteRegion s (regionOf a) v

/-! ## OAM DMA (62_dma_hdma.md) -/

/-- `DmaSrcAddr(a)` (R483). -/
def dmaSrcAddr (a : Word) : Word := if 0xE000 ≤ a.toNat then a - 0x2000#16 else a

/-- The byte the OAM DMA engine reads next (R483). -/
def oamDmaByte (s : State) : Byte := rawRead s (dmaSrcAddr (s.dma.src + BitVec.ofNat 16 s.dma.idx))

/-- The engine's own state after a byte (R483). -/
def OamDma.next (d : OamDma) : OamDma := { d with idx := d.idx + 1, active := d.idx + 1 != dmaLen }

/-- `OamDmaStep()` (R483). -/
def oamDmaStep (s : State) : State :=
  { s with
    oam := if s.dma.active then s.oam.write s.dma.idx (oamDmaByte s) else s.oam
    dma := if s.dma.active then s.dma.next else s.dma }

/-! ## The passing of time -/

/-- `HBlankEntry()` seen by the HDMA engine (R495, R526). -/
def Hdma.hblankEntry (d : Hdma) (cgb : Bool) : Hdma :=
  { d with blockReq := if cgb && d.mode == .hblank then true else d.blockReq }

/-- `TickFast(k)` (R108), one CPU T-cycle. -/
def tickFast (k : Nat) (s : State) : State :=
  let i := s.inputs.nextKeys
  let j := s.joy.update i.keys
  let t := s.timer.tick
  let s1 : State := { s with inputs := i, joy := j.1, timer := t.1,
                             irq := (s.irq.requestIf j.2 4).requestIf t.2 2 }
  if k = 0 then oamDmaStep s1 else s1

/-- `TickSlow()` (R108), one dot. -/
def tickSlow (s : State) : State :=
  let o := ppuTick s
  { s with
    ppu := o.ppu
    hdma := if o.hblank then s.hdma.hblankEntry s.cgb else s.hdma
    inputs := { s.inputs with mode3In := if o.lineStart then s.inputs.mode3In.tail else s.inputs.mode3In }
    irq := (s.irq.requestIf o.vblank 0).statUpdate o.ppu.statLine
    apu := s.apu.tick s.params s.wave }

/-- One CPU T-cycle of `AdvanceM` (R106, R107): at double speed a dot is two T-cycles. -/
def tickT (k : Nat) (s : State) : State :=
  if s.speed.doubleSpeed = false ∨ k = 1 ∨ k = 3 then tickSlow (tickFast k s) else tickFast k s

/-- `AdvanceM()` (R106): one M-cycle in every unit but the CPU. -/
def advanceM (s : State) : State := tickT 3 (tickT 2 (tickT 1 (tickT 0 s)))

/-! ## HDMA (62_dma_hdma.md) -/

/-- `HdmaHoldsCpu()` (R493). -/
def hdmaHolds (s : State) : Bool :=
  s.cgb && (s.hdma.mode == .general || (s.hdma.mode == .hblank && s.hdma.blockReq))

/-- The engine's own state after a byte (R494). -/
def Hdma.next (d : Hdma) : Hdma :=
  let d1 : Hdma := { d with src := d.src + 1#16, dst := 0x8000#16 ||| ((d.dst + 1#16) &&& 0x1FFF#16) }
  if d.byte + 1 = 16 then
    { d1 with byte := 0, blockReq := false,
              mode := if d.left = 0#7 then .idle else d.mode,
              left := if d.left = 0#7 then 0x7F#7 else d.left - 1#7 }
  else { d1 with byte := d.byte + 1 }

/-- `HdmaCopyByte()` (R494). -/
def hdmaCopyByte (s : State) : State :=
  { s with
    vram := s.vram.write (s.vramOff ((s.hdma.dst &&& 0x1FFF#16).toNat)) (rawRead s s.hdma.src)
    hdma := s.hdma.next }

/-- `HdmaStepM()` (R494): two bytes at normal speed, one at double speed, then one M-cycle. -/
def hdmaStepM (s : State) : State :=
  advanceM (if s.speed.doubleSpeed then hdmaCopyByte s else hdmaCopyByte (hdmaCopyByte s))

end Sys2Proof.Machine
end

