-- ==== Sys2Proof/Machine/Ops.lean ====
section
/-! DEFINITION. The primitives of 00_scope.md R11, the only ways an instruction touches memory or time; taking an interrupt
(60_exceptions.md R410) with the return from it beside it, and the undefined-opcode exception (R402). -/
namespace Sys2Proof.Machine

/-! ## One M-cycle -/

/-- `MemRead(a, 1)` (R103): the value before the clock advance, and the state after it. -/
def memRead (s : State) (a : Word) : Byte × State := (busRead s a, advanceM s)

/-- `MemWrite(a, 1, v)` (R104): the write and its side effects, then the clock advance. -/
def memWrite (s : State) (a : Word) (v : Byte) : State := advanceM (busWrite s a v)

/-- `IdleM()` (R105). -/
def idleM (s : State) : State := advanceM s

/-! ## CPU fields -/

/-- `pc <- v`. -/
def State.setPc (s : State) (v : Word) : State := { s with cpu := { s.cpu with pc := v } }
/-- `sp <- v`. -/
def State.setSp (s : State) (v : Word) : State := { s with cpu := { s.cpu with sp := v } }
/-- `ime <- v`. -/
def State.setIme (s : State) (v : Bool) : State := { s with cpu := { s.cpu with ime := v } }
/-- `ime_pending <- v`. -/
def State.setImePending (s : State) (v : Bool) : State := { s with cpu := { s.cpu with imePending := v } }
/-- `halt <- v`. -/
def State.setHalt (s : State) (v : Bool) : State := { s with cpu := { s.cpu with halt := v } }
/-- `stop <- v`. -/
def State.setStop (s : State) (v : Bool) : State := { s with cpu := { s.cpu with stop := v } }
/-- `A <- v`. -/
def State.setA (s : State) (v : Byte) : State := { s with cpu := { s.cpu with a := v } }
/-- `F <- f`, as four flags. -/
def State.setF (s : State) (f : Flags) : State := { s with cpu := { s.cpu with f := f } }

/-! ## Fetch and stack -/

/-- `Fetch8()` (R161). -/
def fetch8 (s : State) : Byte × State :=
  ((memRead s s.cpu.pc).1, (memRead s s.cpu.pc).2.setPc (s.cpu.pc + 1#16))

/-- `Push16(v)` (R237): the high byte first, at the higher address. -/
def push16 (s : State) (v : Word) : State :=
  let s1 := s.setSp (s.cpu.sp - 1#16)
  let s2 := memWrite s1 s1.cpu.sp (hiByte v)
  let s3 := s2.setSp (s2.cpu.sp - 1#16)
  memWrite s3 s3.cpu.sp (loByte v)

/-- `Pop16()` (R238): the low byte first. -/
def pop16 (s : State) : Word × State :=
  let lo := memRead s s.cpu.sp
  let s1 := lo.2.setSp (lo.2.cpu.sp + 1#16)
  let hi := memRead s1 s1.cpu.sp
  (pair hi.1 lo.1, hi.2.setSp (hi.2.cpu.sp + 1#16))

/-! ## Interrupts and exceptions -/

/-- The vector of source `i` (R407, R410). -/
def interruptVector (i : Nat) : Word := BitVec.ofNat 16 (0x40 + 8 * i)

/-- The choice of the source at the end of a dispatch (R410): from IE and IF as they are after the pushes. -/
def chooseVector (s : State) : State :=
  if s.irq.pending = 0#5 then s.setPc 0x0000#16
  else
    { s.setPc (interruptVector (lowestBit s.irq.pending)) with
      irq := { s.irq with pend := s.irq.pend &&& ~~~(1#5 <<< lowestBit s.irq.pending) } }

/-- Taking an interrupt, `Dispatch()` (R410): two idle M-cycles, all interrupts masked, `pc` pushed, the lowest pending
enabled source chosen, its vector in `pc` and its IF bit cleared. -/
def dispatch (s : State) : State :=
  let s1 := idleM (idleM s)
  let s2 := (s1.setIme false).setImePending false
  chooseVector (push16 s2 s2.cpu.pc)

/-- The return from an interrupt, `RETI` (R330, R412): pop `pc`, one idle M-cycle, `ime` set at once. -/
def returnFromInterrupt (s : State) : State :=
  let r := pop16 s
  (idleM (r.2.setPc r.1)).setIme true

/-- `raise IllegalOpcode(op)` (R402): `illegal <- 1` and nothing else. -/
def raiseIllegal (s : State) : State := { s with cpu := { s.cpu with illegal := true } }

end Sys2Proof.Machine
end

