-- ==== Sys2Proof/Machine/Operands.lean ====
section
/-! DEFINITION. The operand forms (30_encoding.md R164 to R168): 8-bit registers, register pairs, the byte at HL, and
conditions. -/
namespace Sys2Proof.Machine

/-- Reading one of the seven registers of R164. -/
def Cpu.get8 (c : Cpu) : R8 → Byte
  | .B => c.b | .C => c.c | .D => c.d | .E => c.e | .H => c.h | .L => c.l | .A => c.a

/-- Writing one of the seven registers of R164. -/
def Cpu.set8 (c : Cpu) (r : R8) (v : Byte) : Cpu :=
  match r with
  | .B => { c with b := v }
  | .C => { c with c := v }
  | .D => { c with d := v }
  | .E => { c with e := v }
  | .H => { c with h := v }
  | .L => { c with l := v }
  | .A => { c with a := v }

/-- The pair BC (R21). -/
def Cpu.bc (c : Cpu) : Word := pair c.b c.c
/-- The pair DE (R21). -/
def Cpu.de (c : Cpu) : Word := pair c.d c.e
/-- The pair HL (R21). -/
def Cpu.hl (c : Cpu) : Word := pair c.h c.l
/-- The pair AF (R21, R25). -/
def Cpu.af (c : Cpu) : Word := pair c.a c.f.toByte

/-- Writing a pair sets its two registers (R21). -/
def Cpu.setHl (c : Cpu) (v : Word) : Cpu := { c with h := hiByte v, l := loByte v }

/-- `r16[p]` read (R165). -/
def Cpu.get16 (c : Cpu) : R16 → Word
  | .BC => c.bc | .DE => c.de | .HL => c.hl | .SP => c.sp

/-- `r16[p] <- v` (R165). -/
def Cpu.set16 (c : Cpu) (rr : R16) (v : Word) : Cpu :=
  match rr with
  | .BC => { c with b := hiByte v, c := loByte v }
  | .DE => { c with d := hiByte v, e := loByte v }
  | .HL => c.setHl v
  | .SP => { c with sp := v }

/-- `r16stk[p]` read (R166, R235). -/
def Cpu.getStk (c : Cpu) : R16Stk → Word
  | .BC => c.bc | .DE => c.de | .HL => c.hl | .AF => c.af

/-- `r16stk[p] <- v` (R166, R236); for AF the low four bits are discarded (R240). -/
def Cpu.setStk (c : Cpu) (rr : R16Stk) (v : Word) : Cpu :=
  match rr with
  | .BC => { c with b := hiByte v, c := loByte v }
  | .DE => { c with d := hiByte v, e := loByte v }
  | .HL => c.setHl v
  | .AF => { c with a := hiByte v, f := Flags.ofByte (loByte v) }

/-- `cond(cc)` (R168, R320). -/
def Flags.cond (f : Flags) : Cond → Bool
  | .NZ => !f.z | .Z => f.z | .NC => !f.c | .C => f.c

/-- `s.get8 r`. -/
def State.get8 (s : State) (r : R8) : Byte := s.cpu.get8 r
/-- `r8[i] <- v` for a register. -/
def State.set8 (s : State) (r : R8) (v : Byte) : State := { s with cpu := s.cpu.set8 r v }
/-- `r16[p] <- v`. -/
def State.set16 (s : State) (rr : R16) (v : Word) : State := { s with cpu := s.cpu.set16 rr v }
/-- `r16stk[p] <- v`. -/
def State.setStk (s : State) (rr : R16Stk) (v : Word) : State := { s with cpu := s.cpu.setStk rr v }
/-- `HL <- v`. -/
def State.setHl (s : State) (v : Word) : State := { s with cpu := s.cpu.setHl v }

/-- `MemRead(HL, 1)`. -/
def readHL (s : State) : Byte × State := memRead s s.cpu.hl

/-- `MemWrite(HL, 1, v)`. -/
def writeHL (s : State) (v : Byte) : State := memWrite s s.cpu.hl v

end Sys2Proof.Machine
end

