-- ==== Sys2Proof/Machine/Alu16.lean ====
section
/-! DEFINITION. 16-bit arithmetic (43_alu16.md R280 to R284). Every meaning stands after the fetch of the whole
instruction: `pc` is the address of the next one (log entry 5). -/
namespace Sys2Proof.Machine

/-- `ADD HL,rr` (R280), with its idle M-cycle. -/
def opAddHl (rr : R16) (s : State) : State :=
  idleM ((s.setHl (add16 s.cpu.hl (s.cpu.get16 rr) s.cpu.f).1).setF (add16 s.cpu.hl (s.cpu.get16 rr) s.cpu.f).2)

/-- `ADD SP,e` (R283), with its two idle M-cycles. -/
def opAddSpE (e : Byte) (s : State) : State :=
  idleM (idleM ((s.setSp (addSpE s.cpu.sp e).1).setF (addSpE s.cpu.sp e).2))

/-- `INC BC` (R281). -/
def execInc_BC (s : State) : Outcome := .next (idleM (s.set16 .BC (s.cpu.get16 .BC + 1#16)))

/-- `ADD HL,BC` (R280). -/
def execAdd_HL_BC (s : State) : Outcome := .next (opAddHl .BC s)

/-- `DEC BC` (R282). -/
def execDec_BC (s : State) : Outcome := .next (idleM (s.set16 .BC (s.cpu.get16 .BC - 1#16)))

/-- `INC DE` (R281). -/
def execInc_DE (s : State) : Outcome := .next (idleM (s.set16 .DE (s.cpu.get16 .DE + 1#16)))

/-- `ADD HL,DE` (R280). -/
def execAdd_HL_DE (s : State) : Outcome := .next (opAddHl .DE s)

/-- `DEC DE` (R282). -/
def execDec_DE (s : State) : Outcome := .next (idleM (s.set16 .DE (s.cpu.get16 .DE - 1#16)))

/-- `INC HL` (R281). -/
def execInc_HL (s : State) : Outcome := .next (idleM (s.set16 .HL (s.cpu.get16 .HL + 1#16)))

/-- `ADD HL,HL` (R280). -/
def execAdd_HL_HL (s : State) : Outcome := .next (opAddHl .HL s)

/-- `DEC HL` (R282). -/
def execDec_HL (s : State) : Outcome := .next (idleM (s.set16 .HL (s.cpu.get16 .HL - 1#16)))

/-- `INC SP` (R281). -/
def execInc_SP (s : State) : Outcome := .next (idleM (s.set16 .SP (s.cpu.get16 .SP + 1#16)))

/-- `ADD HL,SP` (R280). -/
def execAdd_HL_SP (s : State) : Outcome := .next (opAddHl .SP s)

/-- `DEC SP` (R282). -/
def execDec_SP (s : State) : Outcome := .next (idleM (s.set16 .SP (s.cpu.get16 .SP - 1#16)))

/-- `ADD SP,e` (R283). -/
def execAdd_SP_e (e : Byte) (s : State) : Outcome := .next (opAddSpE e s)

end Sys2Proof.Machine
end

