-- ==== Sys2Proof/Machine/Alu8.lean ====
section
/-! DEFINITION. 8-bit arithmetic and logic (42_alu8.md R252 to R268). Every meaning stands after the fetch of the whole
instruction: `pc` is the address of the next one (log entry 5). -/
namespace Sys2Proof.Machine

/-- `alu[y]` on `A` and a source value: the new `A` and the flags (R252 to R260). -/
def opAlu (op : AluOp) (v : Byte) (s : State) : State :=
  (s.setA (alu op s.cpu.a v s.cpu.f).1).setF (alu op s.cpu.a v s.cpu.f).2

/-- `alu[y]` with the byte at `HL` (R252). -/
def opAluM (op : AluOp) (s : State) : State := opAlu op (readHL s).1 (readHL s).2

/-- `INC r` (R261). -/
def opIncR (r : R8) (s : State) : State :=
  (s.set8 r (inc8 (s.get8 r) s.cpu.f).1).setF (inc8 (s.get8 r) s.cpu.f).2

/-- `DEC r` (R263). -/
def opDecR (r : R8) (s : State) : State :=
  (s.set8 r (dec8 (s.get8 r) s.cpu.f).1).setF (dec8 (s.get8 r) s.cpu.f).2

/-- Read, modify, write of the byte at `HL` with an operation that gives a result and flags (R262, R264, R306). -/
def opRmw (op : Byte → Flags → Byte × Flags) (s : State) : State :=
  (writeHL (readHL s).2 (op (readHL s).1 s.cpu.f).1).setF (op (readHL s).1 s.cpu.f).2

/-- An operation on `A` that gives a result and flags (R265, R266, R291 to R294). -/
def opOnA (op : Byte → Flags → Byte × Flags) (s : State) : State :=
  (s.setA (op s.cpu.a s.cpu.f).1).setF (op s.cpu.a s.cpu.f).2

/-- `INC B` (R261). -/
def execInc_B (s : State) : Outcome := .next (opIncR .B s)

/-- `DEC B` (R263). -/
def execDec_B (s : State) : Outcome := .next (opDecR .B s)

/-- `INC C` (R261). -/
def execInc_C (s : State) : Outcome := .next (opIncR .C s)

/-- `DEC C` (R263). -/
def execDec_C (s : State) : Outcome := .next (opDecR .C s)

/-- `INC D` (R261). -/
def execInc_D (s : State) : Outcome := .next (opIncR .D s)

/-- `DEC D` (R263). -/
def execDec_D (s : State) : Outcome := .next (opDecR .D s)

/-- `INC E` (R261). -/
def execInc_E (s : State) : Outcome := .next (opIncR .E s)

/-- `DEC E` (R263). -/
def execDec_E (s : State) : Outcome := .next (opDecR .E s)

/-- `INC H` (R261). -/
def execInc_H (s : State) : Outcome := .next (opIncR .H s)

/-- `DEC H` (R263). -/
def execDec_H (s : State) : Outcome := .next (opDecR .H s)

/-- `DAA` (R265). -/
def execDaa (s : State) : Outcome := .next (opOnA daa s)

/-- `INC L` (R261). -/
def execInc_L (s : State) : Outcome := .next (opIncR .L s)

/-- `DEC L` (R263). -/
def execDec_L (s : State) : Outcome := .next (opDecR .L s)

/-- `CPL` (R266). -/
def execCpl (s : State) : Outcome := .next (opOnA (fun a f => (~~~a, cplFlags f)) s)

/-- `INC (HL)` (R262). -/
def execInc_mHL (s : State) : Outcome := .next (opRmw inc8 s)

/-- `DEC (HL)` (R264). -/
def execDec_mHL (s : State) : Outcome := .next (opRmw dec8 s)

/-- `SCF` (R267). -/
def execScf (s : State) : Outcome := .next (s.setF (scfFlags s.cpu.f))

/-- `INC A` (R261). -/
def execInc_A (s : State) : Outcome := .next (opIncR .A s)

/-- `DEC A` (R263). -/
def execDec_A (s : State) : Outcome := .next (opDecR .A s)

/-- `CCF` (R268). -/
def execCcf (s : State) : Outcome := .next (s.setF (ccfFlags s.cpu.f))

/-- `ADD A,B` (R253). -/
def execAdd_A_B (s : State) : Outcome := .next (opAlu .add (s.get8 .B) s)

/-- `ADD A,C` (R253). -/
def execAdd_A_C (s : State) : Outcome := .next (opAlu .add (s.get8 .C) s)

/-- `ADD A,D` (R253). -/
def execAdd_A_D (s : State) : Outcome := .next (opAlu .add (s.get8 .D) s)

/-- `ADD A,E` (R253). -/
def execAdd_A_E (s : State) : Outcome := .next (opAlu .add (s.get8 .E) s)

/-- `ADD A,H` (R253). -/
def execAdd_A_H (s : State) : Outcome := .next (opAlu .add (s.get8 .H) s)

/-- `ADD A,L` (R253). -/
def execAdd_A_L (s : State) : Outcome := .next (opAlu .add (s.get8 .L) s)

/-- `ADD A,(HL)` (R253). -/
def execAdd_A_mHL (s : State) : Outcome := .next (opAluM .add s)

/-- `ADD A,A` (R253). -/
def execAdd_A_A (s : State) : Outcome := .next (opAlu .add (s.get8 .A) s)

/-- `ADC A,B` (R254). -/
def execAdc_A_B (s : State) : Outcome := .next (opAlu .adc (s.get8 .B) s)

/-- `ADC A,C` (R254). -/
def execAdc_A_C (s : State) : Outcome := .next (opAlu .adc (s.get8 .C) s)

/-- `ADC A,D` (R254). -/
def execAdc_A_D (s : State) : Outcome := .next (opAlu .adc (s.get8 .D) s)

/-- `ADC A,E` (R254). -/
def execAdc_A_E (s : State) : Outcome := .next (opAlu .adc (s.get8 .E) s)

/-- `ADC A,H` (R254). -/
def execAdc_A_H (s : State) : Outcome := .next (opAlu .adc (s.get8 .H) s)

/-- `ADC A,L` (R254). -/
def execAdc_A_L (s : State) : Outcome := .next (opAlu .adc (s.get8 .L) s)

/-- `ADC A,(HL)` (R254). -/
def execAdc_A_mHL (s : State) : Outcome := .next (opAluM .adc s)

/-- `ADC A,A` (R254). -/
def execAdc_A_A (s : State) : Outcome := .next (opAlu .adc (s.get8 .A) s)

/-- `SUB A,B` (R255). -/
def execSub_A_B (s : State) : Outcome := .next (opAlu .sub (s.get8 .B) s)

/-- `SUB A,C` (R255). -/
def execSub_A_C (s : State) : Outcome := .next (opAlu .sub (s.get8 .C) s)

/-- `SUB A,D` (R255). -/
def execSub_A_D (s : State) : Outcome := .next (opAlu .sub (s.get8 .D) s)

/-- `SUB A,E` (R255). -/
def execSub_A_E (s : State) : Outcome := .next (opAlu .sub (s.get8 .E) s)

/-- `SUB A,H` (R255). -/
def execSub_A_H (s : State) : Outcome := .next (opAlu .sub (s.get8 .H) s)

/-- `SUB A,L` (R255). -/
def execSub_A_L (s : State) : Outcome := .next (opAlu .sub (s.get8 .L) s)

/-- `SUB A,(HL)` (R255). -/
def execSub_A_mHL (s : State) : Outcome := .next (opAluM .sub s)

/-- `SUB A,A` (R255). -/
def execSub_A_A (s : State) : Outcome := .next (opAlu .sub (s.get8 .A) s)

/-- `SBC A,B` (R256). -/
def execSbc_A_B (s : State) : Outcome := .next (opAlu .sbc (s.get8 .B) s)

/-- `SBC A,C` (R256). -/
def execSbc_A_C (s : State) : Outcome := .next (opAlu .sbc (s.get8 .C) s)

/-- `SBC A,D` (R256). -/
def execSbc_A_D (s : State) : Outcome := .next (opAlu .sbc (s.get8 .D) s)

/-- `SBC A,E` (R256). -/
def execSbc_A_E (s : State) : Outcome := .next (opAlu .sbc (s.get8 .E) s)

/-- `SBC A,H` (R256). -/
def execSbc_A_H (s : State) : Outcome := .next (opAlu .sbc (s.get8 .H) s)

/-- `SBC A,L` (R256). -/
def execSbc_A_L (s : State) : Outcome := .next (opAlu .sbc (s.get8 .L) s)

/-- `SBC A,(HL)` (R256). -/
def execSbc_A_mHL (s : State) : Outcome := .next (opAluM .sbc s)

/-- `SBC A,A` (R256). -/
def execSbc_A_A (s : State) : Outcome := .next (opAlu .sbc (s.get8 .A) s)

/-- `AND A,B` (R257). -/
def execAnd_A_B (s : State) : Outcome := .next (opAlu .and (s.get8 .B) s)

/-- `AND A,C` (R257). -/
def execAnd_A_C (s : State) : Outcome := .next (opAlu .and (s.get8 .C) s)

/-- `AND A,D` (R257). -/
def execAnd_A_D (s : State) : Outcome := .next (opAlu .and (s.get8 .D) s)

/-- `AND A,E` (R257). -/
def execAnd_A_E (s : State) : Outcome := .next (opAlu .and (s.get8 .E) s)

/-- `AND A,H` (R257). -/
def execAnd_A_H (s : State) : Outcome := .next (opAlu .and (s.get8 .H) s)

/-- `AND A,L` (R257). -/
def execAnd_A_L (s : State) : Outcome := .next (opAlu .and (s.get8 .L) s)

/-- `AND A,(HL)` (R257). -/
def execAnd_A_mHL (s : State) : Outcome := .next (opAluM .and s)

/-- `AND A,A` (R257). -/
def execAnd_A_A (s : State) : Outcome := .next (opAlu .and (s.get8 .A) s)

/-- `XOR A,B` (R258). -/
def execXor_A_B (s : State) : Outcome := .next (opAlu .xor (s.get8 .B) s)

/-- `XOR A,C` (R258). -/
def execXor_A_C (s : State) : Outcome := .next (opAlu .xor (s.get8 .C) s)

/-- `XOR A,D` (R258). -/
def execXor_A_D (s : State) : Outcome := .next (opAlu .xor (s.get8 .D) s)

/-- `XOR A,E` (R258). -/
def execXor_A_E (s : State) : Outcome := .next (opAlu .xor (s.get8 .E) s)

/-- `XOR A,H` (R258). -/
def execXor_A_H (s : State) : Outcome := .next (opAlu .xor (s.get8 .H) s)

/-- `XOR A,L` (R258). -/
def execXor_A_L (s : State) : Outcome := .next (opAlu .xor (s.get8 .L) s)

/-- `XOR A,(HL)` (R258). -/
def execXor_A_mHL (s : State) : Outcome := .next (opAluM .xor s)

/-- `XOR A,A` (R258). -/
def execXor_A_A (s : State) : Outcome := .next (opAlu .xor (s.get8 .A) s)

/-- `OR A,B` (R259). -/
def execOr_A_B (s : State) : Outcome := .next (opAlu .or (s.get8 .B) s)

/-- `OR A,C` (R259). -/
def execOr_A_C (s : State) : Outcome := .next (opAlu .or (s.get8 .C) s)

/-- `OR A,D` (R259). -/
def execOr_A_D (s : State) : Outcome := .next (opAlu .or (s.get8 .D) s)

/-- `OR A,E` (R259). -/
def execOr_A_E (s : State) : Outcome := .next (opAlu .or (s.get8 .E) s)

/-- `OR A,H` (R259). -/
def execOr_A_H (s : State) : Outcome := .next (opAlu .or (s.get8 .H) s)

/-- `OR A,L` (R259). -/
def execOr_A_L (s : State) : Outcome := .next (opAlu .or (s.get8 .L) s)

/-- `OR A,(HL)` (R259). -/
def execOr_A_mHL (s : State) : Outcome := .next (opAluM .or s)

/-- `OR A,A` (R259). -/
def execOr_A_A (s : State) : Outcome := .next (opAlu .or (s.get8 .A) s)

/-- `CP A,B` (R260). -/
def execCp_A_B (s : State) : Outcome := .next (opAlu .cp (s.get8 .B) s)

/-- `CP A,C` (R260). -/
def execCp_A_C (s : State) : Outcome := .next (opAlu .cp (s.get8 .C) s)

/-- `CP A,D` (R260). -/
def execCp_A_D (s : State) : Outcome := .next (opAlu .cp (s.get8 .D) s)

/-- `CP A,E` (R260). -/
def execCp_A_E (s : State) : Outcome := .next (opAlu .cp (s.get8 .E) s)

/-- `CP A,H` (R260). -/
def execCp_A_H (s : State) : Outcome := .next (opAlu .cp (s.get8 .H) s)

/-- `CP A,L` (R260). -/
def execCp_A_L (s : State) : Outcome := .next (opAlu .cp (s.get8 .L) s)

/-- `CP A,(HL)` (R260). -/
def execCp_A_mHL (s : State) : Outcome := .next (opAluM .cp s)

/-- `CP A,A` (R260). -/
def execCp_A_A (s : State) : Outcome := .next (opAlu .cp (s.get8 .A) s)

/-- `ADD A,n` (R253). -/
def execAdd_A_n (n : Byte) (s : State) : Outcome := .next (opAlu .add n s)

/-- `ADC A,n` (R254). -/
def execAdc_A_n (n : Byte) (s : State) : Outcome := .next (opAlu .adc n s)

/-- `SUB A,n` (R255). -/
def execSub_A_n (n : Byte) (s : State) : Outcome := .next (opAlu .sub n s)

/-- `SBC A,n` (R256). -/
def execSbc_A_n (n : Byte) (s : State) : Outcome := .next (opAlu .sbc n s)

/-- `AND A,n` (R257). -/
def execAnd_A_n (n : Byte) (s : State) : Outcome := .next (opAlu .and n s)

/-- `XOR A,n` (R258). -/
def execXor_A_n (n : Byte) (s : State) : Outcome := .next (opAlu .xor n s)

/-- `OR A,n` (R259). -/
def execOr_A_n (n : Byte) (s : State) : Outcome := .next (opAlu .or n s)

/-- `CP A,n` (R260). -/
def execCp_A_n (n : Byte) (s : State) : Outcome := .next (opAlu .cp n s)

end Sys2Proof.Machine
end

