-- ==== Sys2Proof/Machine/Control.lean ====
section
/-! DEFINITION. Jumps, calls, returns (45_control_transfer.md R321 to R331). Every meaning stands after the fetch of the whole
instruction: `pc` is the address of the next one (log entry 5). -/
namespace Sys2Proof.Machine

/-- `pc <- nn; IdleM()` (R321). -/
def opJump (nn : Word) (s : State) : State := idleM (s.setPc nn)

/-- `pc <- (pc + sext_16(e)) mod 65536; IdleM()` (R324). -/
def opJumpRel (e : Byte) (s : State) : State := opJump (s.cpu.pc + sext16 e) s

/-- `IdleM(); Push16(pc); pc <- nn` (R326, R331). -/
def opCall (nn : Word) (s : State) : State := (push16 (idleM s) s.cpu.pc).setPc nn

/-- `pc <- Pop16(); IdleM()` (R328). -/
def opRet (s : State) : State := idleM ((pop16 s).2.setPc (pop16 s).1)

/-- The effect only when the condition holds (R320). -/
def opIf (cc : Cond) (op : State → State) (s : State) : State := if s.cpu.f.cond cc then op s else s

/-- `JR e` (R324). -/
def execJr_e (e : Byte) (s : State) : Outcome := .next (opJumpRel e s)

/-- `JR NZ,e` (R325). -/
def execJr_NZ_e (e : Byte) (s : State) : Outcome := .next (opIf .NZ (opJumpRel e) s)

/-- `JR Z,e` (R325). -/
def execJr_Z_e (e : Byte) (s : State) : Outcome := .next (opIf .Z (opJumpRel e) s)

/-- `JR NC,e` (R325). -/
def execJr_NC_e (e : Byte) (s : State) : Outcome := .next (opIf .NC (opJumpRel e) s)

/-- `JR C,e` (R325). -/
def execJr_C_e (e : Byte) (s : State) : Outcome := .next (opIf .C (opJumpRel e) s)

/-- `RET NZ` (R329). -/
def execRet_NZ (s : State) : Outcome := .next (opIf .NZ opRet (idleM s))

/-- `JP NZ,nn` (R322). -/
def execJp_NZ_nn (nn : Word) (s : State) : Outcome := .next (opIf .NZ (opJump nn) s)

/-- `JP nn` (R321). -/
def execJp_nn (nn : Word) (s : State) : Outcome := .next (opJump nn s)

/-- `CALL NZ,nn` (R327). -/
def execCall_NZ_nn (nn : Word) (s : State) : Outcome := .next (opIf .NZ (opCall nn) s)

/-- `RST 0x00` (R331). -/
def execRst_00 (s : State) : Outcome := .next (opCall 0x0000#16 s)

/-- `RET Z` (R329). -/
def execRet_Z (s : State) : Outcome := .next (opIf .Z opRet (idleM s))

/-- `RET` (R328). -/
def execRet (s : State) : Outcome := .next (opRet s)

/-- `JP Z,nn` (R322). -/
def execJp_Z_nn (nn : Word) (s : State) : Outcome := .next (opIf .Z (opJump nn) s)

/-- `CALL Z,nn` (R327). -/
def execCall_Z_nn (nn : Word) (s : State) : Outcome := .next (opIf .Z (opCall nn) s)

/-- `CALL nn` (R326). -/
def execCall_nn (nn : Word) (s : State) : Outcome := .next (opCall nn s)

/-- `RST 0x08` (R331). -/
def execRst_08 (s : State) : Outcome := .next (opCall 0x0008#16 s)

/-- `RET NC` (R329). -/
def execRet_NC (s : State) : Outcome := .next (opIf .NC opRet (idleM s))

/-- `JP NC,nn` (R322). -/
def execJp_NC_nn (nn : Word) (s : State) : Outcome := .next (opIf .NC (opJump nn) s)

/-- `CALL NC,nn` (R327). -/
def execCall_NC_nn (nn : Word) (s : State) : Outcome := .next (opIf .NC (opCall nn) s)

/-- `RST 0x10` (R331). -/
def execRst_10 (s : State) : Outcome := .next (opCall 0x0010#16 s)

/-- `RET C` (R329). -/
def execRet_C (s : State) : Outcome := .next (opIf .C opRet (idleM s))

/-- `RETI` (R330). -/
def execReti (s : State) : Outcome := .next (returnFromInterrupt s)

/-- `JP C,nn` (R322). -/
def execJp_C_nn (nn : Word) (s : State) : Outcome := .next (opIf .C (opJump nn) s)

/-- `CALL C,nn` (R327). -/
def execCall_C_nn (nn : Word) (s : State) : Outcome := .next (opIf .C (opCall nn) s)

/-- `RST 0x18` (R331). -/
def execRst_18 (s : State) : Outcome := .next (opCall 0x0018#16 s)

/-- `RST 0x20` (R331). -/
def execRst_20 (s : State) : Outcome := .next (opCall 0x0020#16 s)

/-- `JP HL` (R323). -/
def execJp_HL (s : State) : Outcome := .next (s.setPc s.cpu.hl)

/-- `RST 0x28` (R331). -/
def execRst_28 (s : State) : Outcome := .next (opCall 0x0028#16 s)

/-- `RST 0x30` (R331). -/
def execRst_30 (s : State) : Outcome := .next (opCall 0x0030#16 s)

/-- `RST 0x38` (R331). -/
def execRst_38 (s : State) : Outcome := .next (opCall 0x0038#16 s)

end Sys2Proof.Machine
end

