-- ==== Sys2Proof/Machine/Load16.lean ====
section
/-! DEFINITION. The 16-bit loads and the stack instructions (41_load16_stack.md R231 to R240). Every meaning stands after the fetch of the whole
instruction: `pc` is the address of the next one (log entry 5). -/
namespace Sys2Proof.Machine

/-- `MemWrite(nn, 1, sp[7:0]); MemWrite((nn + 1) mod 65536, 1, sp[15:8])` (R232). -/
def opStSp (nn : Word) (s : State) : State :=
  memWrite (memWrite s nn (loByte s.cpu.sp)) (nn + 1#16) (hiByte s.cpu.sp)

/-- `HL <- sp + e` with its flags, then one idle M-cycle (R234). -/
def opLdHlSpE (e : Byte) (s : State) : State :=
  idleM ((s.setHl (addSpE s.cpu.sp e).1).setF (addSpE s.cpu.sp e).2)

/-- `IdleM(); Push16(r16stk[p])` (R235). -/
def opPush (rr : R16Stk) (s : State) : State := push16 (idleM s) (s.cpu.getStk rr)

/-- `r16stk[p] <- Pop16()` (R236, R240). -/
def opPop (rr : R16Stk) (s : State) : State := (pop16 s).2.setStk rr (pop16 s).1

/-- `LD BC,nn` (R231). -/
def execLd_BC_nn (nn : Word) (s : State) : Outcome := .next (s.set16 .BC nn)

/-- `LD (nn),SP` (R232). -/
def execLd_mnn_SP (nn : Word) (s : State) : Outcome := .next (opStSp nn s)

/-- `LD DE,nn` (R231). -/
def execLd_DE_nn (nn : Word) (s : State) : Outcome := .next (s.set16 .DE nn)

/-- `LD HL,nn` (R231). -/
def execLd_HL_nn (nn : Word) (s : State) : Outcome := .next (s.set16 .HL nn)

/-- `LD SP,nn` (R231). -/
def execLd_SP_nn (nn : Word) (s : State) : Outcome := .next (s.set16 .SP nn)

/-- `POP BC` (R236). -/
def execPop_BC (s : State) : Outcome := .next (opPop .BC s)

/-- `PUSH BC` (R235). -/
def execPush_BC (s : State) : Outcome := .next (opPush .BC s)

/-- `POP DE` (R236). -/
def execPop_DE (s : State) : Outcome := .next (opPop .DE s)

/-- `PUSH DE` (R235). -/
def execPush_DE (s : State) : Outcome := .next (opPush .DE s)

/-- `POP HL` (R236). -/
def execPop_HL (s : State) : Outcome := .next (opPop .HL s)

/-- `PUSH HL` (R235). -/
def execPush_HL (s : State) : Outcome := .next (opPush .HL s)

/-- `POP AF` (R240). -/
def execPop_AF (s : State) : Outcome := .next (opPop .AF s)

/-- `PUSH AF` (R235). -/
def execPush_AF (s : State) : Outcome := .next (opPush .AF s)

/-- `LD HL,SP+e` (R234). -/
def execLd_HL_SPe (e : Byte) (s : State) : Outcome := .next (opLdHlSpE e s)

/-- `LD SP,HL` (R233). -/
def execLd_SP_HL (s : State) : Outcome := .next (idleM (s.setSp s.cpu.hl))

end Sys2Proof.Machine
end

