-- ==== Sys2Proof/Machine/Load8.lean ====
section
/-! DEFINITION. The 8-bit loads (40_load8.md R201 to R219). Every meaning stands after the fetch of the whole
instruction: `pc` is the address of the next one (log entry 5). -/
namespace Sys2Proof.Machine

/-- `r8[y] <- r8[z]` (R201). -/
def opLdRR (d r : R8) (s : State) : State := s.set8 d (s.get8 r)

/-- `r8[y] <- n` (R202). -/
def opLdRN (d : R8) (n : Byte) (s : State) : State := s.set8 d n

/-- `r8[y] <- MemRead(HL, 1)` (R203). -/
def opLdRM (d : R8) (s : State) : State := (readHL s).2.set8 d (readHL s).1

/-- `MemWrite(HL, 1, r8[z])` (R204). -/
def opLdMR (r : R8) (s : State) : State := writeHL s (s.get8 r)

/-- `A <- MemRead(a, 1)` (R206, R207, R210, R212, R214, R216, R217). -/
def opLdA (a : Word) (s : State) : State := (memRead s a).2.setA (memRead s a).1

/-- `MemWrite(a, 1, A)` (R208, R209, R211, R213, R215, R218, R219). -/
def opStA (a : Word) (s : State) : State := memWrite s a s.cpu.a

/-- `LD (BC),A` (R208). -/
def execLd_mBC_A (s : State) : Outcome := .next (opStA s.cpu.bc s)

/-- `LD B,n` (R202). -/
def execLd_B_n (n : Byte) (s : State) : Outcome := .next (opLdRN .B n s)

/-- `LD A,(BC)` (R206). -/
def execLd_A_mBC (s : State) : Outcome := .next (opLdA s.cpu.bc s)

/-- `LD C,n` (R202). -/
def execLd_C_n (n : Byte) (s : State) : Outcome := .next (opLdRN .C n s)

/-- `LD (DE),A` (R209). -/
def execLd_mDE_A (s : State) : Outcome := .next (opStA s.cpu.de s)

/-- `LD D,n` (R202). -/
def execLd_D_n (n : Byte) (s : State) : Outcome := .next (opLdRN .D n s)

/-- `LD A,(DE)` (R207). -/
def execLd_A_mDE (s : State) : Outcome := .next (opLdA s.cpu.de s)

/-- `LD E,n` (R202). -/
def execLd_E_n (n : Byte) (s : State) : Outcome := .next (opLdRN .E n s)

/-- `LD (HL+),A` (R218). -/
def execLd_mHLinc_A (s : State) : Outcome := .next ((opStA s.cpu.hl s).setHl (s.cpu.hl + 1#16))

/-- `LD H,n` (R202). -/
def execLd_H_n (n : Byte) (s : State) : Outcome := .next (opLdRN .H n s)

/-- `LD A,(HL+)` (R216). -/
def execLd_A_mHLinc (s : State) : Outcome := .next ((opLdA s.cpu.hl s).setHl (s.cpu.hl + 1#16))

/-- `LD L,n` (R202). -/
def execLd_L_n (n : Byte) (s : State) : Outcome := .next (opLdRN .L n s)

/-- `LD (HL-),A` (R219). -/
def execLd_mHLdec_A (s : State) : Outcome := .next ((opStA s.cpu.hl s).setHl (s.cpu.hl - 1#16))

/-- `LD (HL),n` (R205). -/
def execLd_mHL_n (n : Byte) (s : State) : Outcome := .next (writeHL s n)

/-- `LD A,(HL-)` (R217). -/
def execLd_A_mHLdec (s : State) : Outcome := .next ((opLdA s.cpu.hl s).setHl (s.cpu.hl - 1#16))

/-- `LD A,n` (R202). -/
def execLd_A_n (n : Byte) (s : State) : Outcome := .next (opLdRN .A n s)

/-- `LD B,B` (R201). -/
def execLd_B_B (s : State) : Outcome := .next (opLdRR .B .B s)

/-- `LD B,C` (R201). -/
def execLd_B_C (s : State) : Outcome := .next (opLdRR .B .C s)

/-- `LD B,D` (R201). -/
def execLd_B_D (s : State) : Outcome := .next (opLdRR .B .D s)

/-- `LD B,E` (R201). -/
def execLd_B_E (s : State) : Outcome := .next (opLdRR .B .E s)

/-- `LD B,H` (R201). -/
def execLd_B_H (s : State) : Outcome := .next (opLdRR .B .H s)

/-- `LD B,L` (R201). -/
def execLd_B_L (s : State) : Outcome := .next (opLdRR .B .L s)

/-- `LD B,(HL)` (R203). -/
def execLd_B_mHL (s : State) : Outcome := .next (opLdRM .B s)

/-- `LD B,A` (R201). -/
def execLd_B_A (s : State) : Outcome := .next (opLdRR .B .A s)

/-- `LD C,B` (R201). -/
def execLd_C_B (s : State) : Outcome := .next (opLdRR .C .B s)

/-- `LD C,C` (R201). -/
def execLd_C_C (s : State) : Outcome := .next (opLdRR .C .C s)

/-- `LD C,D` (R201). -/
def execLd_C_D (s : State) : Outcome := .next (opLdRR .C .D s)

/-- `LD C,E` (R201). -/
def execLd_C_E (s : State) : Outcome := .next (opLdRR .C .E s)

/-- `LD C,H` (R201). -/
def execLd_C_H (s : State) : Outcome := .next (opLdRR .C .H s)

/-- `LD C,L` (R201). -/
def execLd_C_L (s : State) : Outcome := .next (opLdRR .C .L s)

/-- `LD C,(HL)` (R203). -/
def execLd_C_mHL (s : State) : Outcome := .next (opLdRM .C s)

/-- `LD C,A` (R201). -/
def execLd_C_A (s : State) : Outcome := .next (opLdRR .C .A s)

/-- `LD D,B` (R201). -/
def execLd_D_B (s : State) : Outcome := .next (opLdRR .D .B s)

/-- `LD D,C` (R201). -/
def execLd_D_C (s : State) : Outcome := .next (opLdRR .D .C s)

/-- `LD D,D` (R201). -/
def execLd_D_D (s : State) : Outcome := .next (opLdRR .D .D s)

/-- `LD D,E` (R201). -/
def execLd_D_E (s : State) : Outcome := .next (opLdRR .D .E s)

/-- `LD D,H` (R201). -/
def execLd_D_H (s : State) : Outcome := .next (opLdRR .D .H s)

/-- `LD D,L` (R201). -/
def execLd_D_L (s : State) : Outcome := .next (opLdRR .D .L s)

/-- `LD D,(HL)` (R203). -/
def execLd_D_mHL (s : State) : Outcome := .next (opLdRM .D s)

/-- `LD D,A` (R201). -/
def execLd_D_A (s : State) : Outcome := .next (opLdRR .D .A s)

/-- `LD E,B` (R201). -/
def execLd_E_B (s : State) : Outcome := .next (opLdRR .E .B s)

/-- `LD E,C` (R201). -/
def execLd_E_C (s : State) : Outcome := .next (opLdRR .E .C s)

/-- `LD E,D` (R201). -/
def execLd_E_D (s : State) : Outcome := .next (opLdRR .E .D s)

/-- `LD E,E` (R201). -/
def execLd_E_E (s : State) : Outcome := .next (opLdRR .E .E s)

/-- `LD E,H` (R201). -/
def execLd_E_H (s : State) : Outcome := .next (opLdRR .E .H s)

/-- `LD E,L` (R201). -/
def execLd_E_L (s : State) : Outcome := .next (opLdRR .E .L s)

/-- `LD E,(HL)` (R203). -/
def execLd_E_mHL (s : State) : Outcome := .next (opLdRM .E s)

/-- `LD E,A` (R201). -/
def execLd_E_A (s : State) : Outcome := .next (opLdRR .E .A s)

/-- `LD H,B` (R201). -/
def execLd_H_B (s : State) : Outcome := .next (opLdRR .H .B s)

/-- `LD H,C` (R201). -/
def execLd_H_C (s : State) : Outcome := .next (opLdRR .H .C s)

/-- `LD H,D` (R201). -/
def execLd_H_D (s : State) : Outcome := .next (opLdRR .H .D s)

/-- `LD H,E` (R201). -/
def execLd_H_E (s : State) : Outcome := .next (opLdRR .H .E s)

/-- `LD H,H` (R201). -/
def execLd_H_H (s : State) : Outcome := .next (opLdRR .H .H s)

/-- `LD H,L` (R201). -/
def execLd_H_L (s : State) : Outcome := .next (opLdRR .H .L s)

/-- `LD H,(HL)` (R203). -/
def execLd_H_mHL (s : State) : Outcome := .next (opLdRM .H s)

/-- `LD H,A` (R201). -/
def execLd_H_A (s : State) : Outcome := .next (opLdRR .H .A s)

/-- `LD L,B` (R201). -/
def execLd_L_B (s : State) : Outcome := .next (opLdRR .L .B s)

/-- `LD L,C` (R201). -/
def execLd_L_C (s : State) : Outcome := .next (opLdRR .L .C s)

/-- `LD L,D` (R201). -/
def execLd_L_D (s : State) : Outcome := .next (opLdRR .L .D s)

/-- `LD L,E` (R201). -/
def execLd_L_E (s : State) : Outcome := .next (opLdRR .L .E s)

/-- `LD L,H` (R201). -/
def execLd_L_H (s : State) : Outcome := .next (opLdRR .L .H s)

/-- `LD L,L` (R201). -/
def execLd_L_L (s : State) : Outcome := .next (opLdRR .L .L s)

/-- `LD L,(HL)` (R203). -/
def execLd_L_mHL (s : State) : Outcome := .next (opLdRM .L s)

/-- `LD L,A` (R201). -/
def execLd_L_A (s : State) : Outcome := .next (opLdRR .L .A s)

/-- `LD (HL),B` (R204). -/
def execLd_mHL_B (s : State) : Outcome := .next (opLdMR .B s)

/-- `LD (HL),C` (R204). -/
def execLd_mHL_C (s : State) : Outcome := .next (opLdMR .C s)

/-- `LD (HL),D` (R204). -/
def execLd_mHL_D (s : State) : Outcome := .next (opLdMR .D s)

/-- `LD (HL),E` (R204). -/
def execLd_mHL_E (s : State) : Outcome := .next (opLdMR .E s)

/-- `LD (HL),H` (R204). -/
def execLd_mHL_H (s : State) : Outcome := .next (opLdMR .H s)

/-- `LD (HL),L` (R204). -/
def execLd_mHL_L (s : State) : Outcome := .next (opLdMR .L s)

/-- `LD (HL),A` (R204). -/
def execLd_mHL_A (s : State) : Outcome := .next (opLdMR .A s)

/-- `LD A,B` (R201). -/
def execLd_A_B (s : State) : Outcome := .next (opLdRR .A .B s)

/-- `LD A,C` (R201). -/
def execLd_A_C (s : State) : Outcome := .next (opLdRR .A .C s)

/-- `LD A,D` (R201). -/
def execLd_A_D (s : State) : Outcome := .next (opLdRR .A .D s)

/-- `LD A,E` (R201). -/
def execLd_A_E (s : State) : Outcome := .next (opLdRR .A .E s)

/-- `LD A,H` (R201). -/
def execLd_A_H (s : State) : Outcome := .next (opLdRR .A .H s)

/-- `LD A,L` (R201). -/
def execLd_A_L (s : State) : Outcome := .next (opLdRR .A .L s)

/-- `LD A,(HL)` (R203). -/
def execLd_A_mHL (s : State) : Outcome := .next (opLdRM .A s)

/-- `LD A,A` (R201). -/
def execLd_A_A (s : State) : Outcome := .next (opLdRR .A .A s)

/-- `LDH (n),A` (R215). -/
def execLdh_mn_A (n : Byte) (s : State) : Outcome := .next (opStA (highPage n) s)

/-- `LDH (C),A` (R213). -/
def execLdh_mC_A (s : State) : Outcome := .next (opStA (highPage s.cpu.c) s)

/-- `LD (nn),A` (R211). -/
def execLd_mnn_A (nn : Word) (s : State) : Outcome := .next (opStA nn s)

/-- `LDH A,(n)` (R214). -/
def execLdh_A_mn (n : Byte) (s : State) : Outcome := .next (opLdA (highPage n) s)

/-- `LDH A,(C)` (R212). -/
def execLdh_A_mC (s : State) : Outcome := .next (opLdA (highPage s.cpu.c) s)

/-- `LD A,(nn)` (R210). -/
def execLd_A_mnn (nn : Word) (s : State) : Outcome := .next (opLdA nn s)

end Sys2Proof.Machine
end

