-- ==== Sys2Proof/Machine/RotateShiftBit.lean ====
section
/-! DEFINITION. Rotates, shifts and bit operations (44_rotate_shift_bit.md R291 to R306). The read-modify-write form `opRmw` and
the accumulator form `opOnA` are those of Alu8.lean. Every meaning stands after the fetch of the whole
instruction: `pc` is the address of the next one (log entry 5). -/
namespace Sys2Proof.Machine

/-- A prefixed rotate or shift of a register (R295 to R302, R306). -/
def opRot (op : RotOp) (r : R8) (s : State) : State :=
  (s.set8 r (rotFlags op (s.get8 r) s.cpu.f).1).setF (rotFlags op (s.get8 r) s.cpu.f).2

/-- `BIT b` of a value (R303). -/
def opBit (b : Nat) (v : Byte) (s : State) : State := s.setF (bitFlags v b s.cpu.f)

/-- `BIT b,(HL)` (R303, R306). -/
def opBitM (b : Nat) (s : State) : State := opBit b (readHL s).1 (readHL s).2

/-- Read, modify, write of the byte at `HL` without flags (R304, R305, R306). -/
def opPutM (op : Byte → Byte) (s : State) : State := writeHL (readHL s).2 (op (readHL s).1)

/-- `RLCA` (R291). -/
def execRlca (s : State) : Outcome := .next (opOnA (rotAFlags .rlc) s)

/-- `RRCA` (R292). -/
def execRrca (s : State) : Outcome := .next (opOnA (rotAFlags .rrc) s)

/-- `RLA` (R293). -/
def execRla (s : State) : Outcome := .next (opOnA (rotAFlags .rl) s)

/-- `RRA` (R294). -/
def execRra (s : State) : Outcome := .next (opOnA (rotAFlags .rr) s)

/-- `RLC B` (R295). -/
def execRlc_B (s : State) : Outcome := .next (opRot .rlc .B s)

/-- `RLC C` (R295). -/
def execRlc_C (s : State) : Outcome := .next (opRot .rlc .C s)

/-- `RLC D` (R295). -/
def execRlc_D (s : State) : Outcome := .next (opRot .rlc .D s)

/-- `RLC E` (R295). -/
def execRlc_E (s : State) : Outcome := .next (opRot .rlc .E s)

/-- `RLC H` (R295). -/
def execRlc_H (s : State) : Outcome := .next (opRot .rlc .H s)

/-- `RLC L` (R295). -/
def execRlc_L (s : State) : Outcome := .next (opRot .rlc .L s)

/-- `RLC (HL)` (R295). -/
def execRlc_mHL (s : State) : Outcome := .next (opRmw (rotFlags .rlc) s)

/-- `RLC A` (R295). -/
def execRlc_A (s : State) : Outcome := .next (opRot .rlc .A s)

/-- `RRC B` (R296). -/
def execRrc_B (s : State) : Outcome := .next (opRot .rrc .B s)

/-- `RRC C` (R296). -/
def execRrc_C (s : State) : Outcome := .next (opRot .rrc .C s)

/-- `RRC D` (R296). -/
def execRrc_D (s : State) : Outcome := .next (opRot .rrc .D s)

/-- `RRC E` (R296). -/
def execRrc_E (s : State) : Outcome := .next (opRot .rrc .E s)

/-- `RRC H` (R296). -/
def execRrc_H (s : State) : Outcome := .next (opRot .rrc .H s)

/-- `RRC L` (R296). -/
def execRrc_L (s : State) : Outcome := .next (opRot .rrc .L s)

/-- `RRC (HL)` (R296). -/
def execRrc_mHL (s : State) : Outcome := .next (opRmw (rotFlags .rrc) s)

/-- `RRC A` (R296). -/
def execRrc_A (s : State) : Outcome := .next (opRot .rrc .A s)

/-- `RL B` (R297). -/
def execRl_B (s : State) : Outcome := .next (opRot .rl .B s)

/-- `RL C` (R297). -/
def execRl_C (s : State) : Outcome := .next (opRot .rl .C s)

/-- `RL D` (R297). -/
def execRl_D (s : State) : Outcome := .next (opRot .rl .D s)

/-- `RL E` (R297). -/
def execRl_E (s : State) : Outcome := .next (opRot .rl .E s)

/-- `RL H` (R297). -/
def execRl_H (s : State) : Outcome := .next (opRot .rl .H s)

/-- `RL L` (R297). -/
def execRl_L (s : State) : Outcome := .next (opRot .rl .L s)

/-- `RL (HL)` (R297). -/
def execRl_mHL (s : State) : Outcome := .next (opRmw (rotFlags .rl) s)

/-- `RL A` (R297). -/
def execRl_A (s : State) : Outcome := .next (opRot .rl .A s)

/-- `RR B` (R298). -/
def execRr_B (s : State) : Outcome := .next (opRot .rr .B s)

/-- `RR C` (R298). -/
def execRr_C (s : State) : Outcome := .next (opRot .rr .C s)

/-- `RR D` (R298). -/
def execRr_D (s : State) : Outcome := .next (opRot .rr .D s)

/-- `RR E` (R298). -/
def execRr_E (s : State) : Outcome := .next (opRot .rr .E s)

/-- `RR H` (R298). -/
def execRr_H (s : State) : Outcome := .next (opRot .rr .H s)

/-- `RR L` (R298). -/
def execRr_L (s : State) : Outcome := .next (opRot .rr .L s)

/-- `RR (HL)` (R298). -/
def execRr_mHL (s : State) : Outcome := .next (opRmw (rotFlags .rr) s)

/-- `RR A` (R298). -/
def execRr_A (s : State) : Outcome := .next (opRot .rr .A s)

/-- `SLA B` (R299). -/
def execSla_B (s : State) : Outcome := .next (opRot .sla .B s)

/-- `SLA C` (R299). -/
def execSla_C (s : State) : Outcome := .next (opRot .sla .C s)

/-- `SLA D` (R299). -/
def execSla_D (s : State) : Outcome := .next (opRot .sla .D s)

/-- `SLA E` (R299). -/
def execSla_E (s : State) : Outcome := .next (opRot .sla .E s)

/-- `SLA H` (R299). -/
def execSla_H (s : State) : Outcome := .next (opRot .sla .H s)

/-- `SLA L` (R299). -/
def execSla_L (s : State) : Outcome := .next (opRot .sla .L s)

/-- `SLA (HL)` (R299). -/
def execSla_mHL (s : State) : Outcome := .next (opRmw (rotFlags .sla) s)

/-- `SLA A` (R299). -/
def execSla_A (s : State) : Outcome := .next (opRot .sla .A s)

/-- `SRA B` (R300). -/
def execSra_B (s : State) : Outcome := .next (opRot .sra .B s)

/-- `SRA C` (R300). -/
def execSra_C (s : State) : Outcome := .next (opRot .sra .C s)

/-- `SRA D` (R300). -/
def execSra_D (s : State) : Outcome := .next (opRot .sra .D s)

/-- `SRA E` (R300). -/
def execSra_E (s : State) : Outcome := .next (opRot .sra .E s)

/-- `SRA H` (R300). -/
def execSra_H (s : State) : Outcome := .next (opRot .sra .H s)

/-- `SRA L` (R300). -/
def execSra_L (s : State) : Outcome := .next (opRot .sra .L s)

/-- `SRA (HL)` (R300). -/
def execSra_mHL (s : State) : Outcome := .next (opRmw (rotFlags .sra) s)

/-- `SRA A` (R300). -/
def execSra_A (s : State) : Outcome := .next (opRot .sra .A s)

/-- `SWAP B` (R301). -/
def execSwap_B (s : State) : Outcome := .next (opRot .swap .B s)

/-- `SWAP C` (R301). -/
def execSwap_C (s : State) : Outcome := .next (opRot .swap .C s)

/-- `SWAP D` (R301). -/
def execSwap_D (s : State) : Outcome := .next (opRot .swap .D s)

/-- `SWAP E` (R301). -/
def execSwap_E (s : State) : Outcome := .next (opRot .swap .E s)

/-- `SWAP H` (R301). -/
def execSwap_H (s : State) : Outcome := .next (opRot .swap .H s)

/-- `SWAP L` (R301). -/
def execSwap_L (s : State) : Outcome := .next (opRot .swap .L s)

/-- `SWAP (HL)` (R301). -/
def execSwap_mHL (s : State) : Outcome := .next (opRmw (rotFlags .swap) s)

/-- `SWAP A` (R301). -/
def execSwap_A (s : State) : Outcome := .next (opRot .swap .A s)

/-- `SRL B` (R302). -/
def execSrl_B (s : State) : Outcome := .next (opRot .srl .B s)

/-- `SRL C` (R302). -/
def execSrl_C (s : State) : Outcome := .next (opRot .srl .C s)

/-- `SRL D` (R302). -/
def execSrl_D (s : State) : Outcome := .next (opRot .srl .D s)

/-- `SRL E` (R302). -/
def execSrl_E (s : State) : Outcome := .next (opRot .srl .E s)

/-- `SRL H` (R302). -/
def execSrl_H (s : State) : Outcome := .next (opRot .srl .H s)

/-- `SRL L` (R302). -/
def execSrl_L (s : State) : Outcome := .next (opRot .srl .L s)

/-- `SRL (HL)` (R302). -/
def execSrl_mHL (s : State) : Outcome := .next (opRmw (rotFlags .srl) s)

/-- `SRL A` (R302). -/
def execSrl_A (s : State) : Outcome := .next (opRot .srl .A s)

/-- `BIT 0,B` (R303). -/
def execBit_0_B (s : State) : Outcome := .next (opBit 0 (s.get8 .B) s)

/-- `BIT 0,C` (R303). -/
def execBit_0_C (s : State) : Outcome := .next (opBit 0 (s.get8 .C) s)

/-- `BIT 0,D` (R303). -/
def execBit_0_D (s : State) : Outcome := .next (opBit 0 (s.get8 .D) s)

/-- `BIT 0,E` (R303). -/
def execBit_0_E (s : State) : Outcome := .next (opBit 0 (s.get8 .E) s)

/-- `BIT 0,H` (R303). -/
def execBit_0_H (s : State) : Outcome := .next (opBit 0 (s.get8 .H) s)

/-- `BIT 0,L` (R303). -/
def execBit_0_L (s : State) : Outcome := .next (opBit 0 (s.get8 .L) s)

/-- `BIT 0,(HL)` (R303). -/
def execBit_0_mHL (s : State) : Outcome := .next (opBitM 0 s)

/-- `BIT 0,A` (R303). -/
def execBit_0_A (s : State) : Outcome := .next (opBit 0 (s.get8 .A) s)

/-- `BIT 1,B` (R303). -/
def execBit_1_B (s : State) : Outcome := .next (opBit 1 (s.get8 .B) s)

/-- `BIT 1,C` (R303). -/
def execBit_1_C (s : State) : Outcome := .next (opBit 1 (s.get8 .C) s)

/-- `BIT 1,D` (R303). -/
def execBit_1_D (s : State) : Outcome := .next (opBit 1 (s.get8 .D) s)

/-- `BIT 1,E` (R303). -/
def execBit_1_E (s : State) : Outcome := .next (opBit 1 (s.get8 .E) s)

/-- `BIT 1,H` (R303). -/
def execBit_1_H (s : State) : Outcome := .next (opBit 1 (s.get8 .H) s)

/-- `BIT 1,L` (R303). -/
def execBit_1_L (s : State) : Outcome := .next (opBit 1 (s.get8 .L) s)

/-- `BIT 1,(HL)` (R303). -/
def execBit_1_mHL (s : State) : Outcome := .next (opBitM 1 s)

/-- `BIT 1,A` (R303). -/
def execBit_1_A (s : State) : Outcome := .next (opBit 1 (s.get8 .A) s)

/-- `BIT 2,B` (R303). -/
def execBit_2_B (s : State) : Outcome := .next (opBit 2 (s.get8 .B) s)

/-- `BIT 2,C` (R303). -/
def execBit_2_C (s : State) : Outcome := .next (opBit 2 (s.get8 .C) s)

/-- `BIT 2,D` (R303). -/
def execBit_2_D (s : State) : Outcome := .next (opBit 2 (s.get8 .D) s)

/-- `BIT 2,E` (R303). -/
def execBit_2_E (s : State) : Outcome := .next (opBit 2 (s.get8 .E) s)

/-- `BIT 2,H` (R303). -/
def execBit_2_H (s : State) : Outcome := .next (opBit 2 (s.get8 .H) s)

/-- `BIT 2,L` (R303). -/
def execBit_2_L (s : State) : Outcome := .next (opBit 2 (s.get8 .L) s)

/-- `BIT 2,(HL)` (R303). -/
def execBit_2_mHL (s : State) : Outcome := .next (opBitM 2 s)

/-- `BIT 2,A` (R303). -/
def execBit_2_A (s : State) : Outcome := .next (opBit 2 (s.get8 .A) s)

/-- `BIT 3,B` (R303). -/
def execBit_3_B (s : State) : Outcome := .next (opBit 3 (s.get8 .B) s)

/-- `BIT 3,C` (R303). -/
def execBit_3_C (s : State) : Outcome := .next (opBit 3 (s.get8 .C) s)

/-- `BIT 3,D` (R303). -/
def execBit_3_D (s : State) : Outcome := .next (opBit 3 (s.get8 .D) s)

/-- `BIT 3,E` (R303). -/
def execBit_3_E (s : State) : Outcome := .next (opBit 3 (s.get8 .E) s)

/-- `BIT 3,H` (R303). -/
def execBit_3_H (s : State) : Outcome := .next (opBit 3 (s.get8 .H) s)

/-- `BIT 3,L` (R303). -/
def execBit_3_L (s : State) : Outcome := .next (opBit 3 (s.get8 .L) s)

/-- `BIT 3,(HL)` (R303). -/
def execBit_3_mHL (s : State) : Outcome := .next (opBitM 3 s)

/-- `BIT 3,A` (R303). -/
def execBit_3_A (s : State) : Outcome := .next (opBit 3 (s.get8 .A) s)

/-- `BIT 4,B` (R303). -/
def execBit_4_B (s : State) : Outcome := .next (opBit 4 (s.get8 .B) s)

/-- `BIT 4,C` (R303). -/
def execBit_4_C (s : State) : Outcome := .next (opBit 4 (s.get8 .C) s)

/-- `BIT 4,D` (R303). -/
def execBit_4_D (s : State) : Outcome := .next (opBit 4 (s.get8 .D) s)

/-- `BIT 4,E` (R303). -/
def execBit_4_E (s : State) : Outcome := .next (opBit 4 (s.get8 .E) s)

/-- `BIT 4,H` (R303). -/
def execBit_4_H (s : State) : Outcome := .next (opBit 4 (s.get8 .H) s)

/-- `BIT 4,L` (R303). -/
def execBit_4_L (s : State) : Outcome := .next (opBit 4 (s.get8 .L) s)

/-- `BIT 4,(HL)` (R303). -/
def execBit_4_mHL (s : State) : Outcome := .next (opBitM 4 s)

/-- `BIT 4,A` (R303). -/
def execBit_4_A (s : State) : Outcome := .next (opBit 4 (s.get8 .A) s)

/-- `BIT 5,B` (R303). -/
def execBit_5_B (s : State) : Outcome := .next (opBit 5 (s.get8 .B) s)

/-- `BIT 5,C` (R303). -/
def execBit_5_C (s : State) : Outcome := .next (opBit 5 (s.get8 .C) s)

/-- `BIT 5,D` (R303). -/
def execBit_5_D (s : State) : Outcome := .next (opBit 5 (s.get8 .D) s)

/-- `BIT 5,E` (R303). -/
def execBit_5_E (s : State) : Outcome := .next (opBit 5 (s.get8 .E) s)

/-- `BIT 5,H` (R303). -/
def execBit_5_H (s : State) : Outcome := .next (opBit 5 (s.get8 .H) s)

/-- `BIT 5,L` (R303). -/
def execBit_5_L (s : State) : Outcome := .next (opBit 5 (s.get8 .L) s)

/-- `BIT 5,(HL)` (R303). -/
def execBit_5_mHL (s : State) : Outcome := .next (opBitM 5 s)

/-- `BIT 5,A` (R303). -/
def execBit_5_A (s : State) : Outcome := .next (opBit 5 (s.get8 .A) s)

/-- `BIT 6,B` (R303). -/
def execBit_6_B (s : State) : Outcome := .next (opBit 6 (s.get8 .B) s)

/-- `BIT 6,C` (R303). -/
def execBit_6_C (s : State) : Outcome := .next (opBit 6 (s.get8 .C) s)

/-- `BIT 6,D` (R303). -/
def execBit_6_D (s : State) : Outcome := .next (opBit 6 (s.get8 .D) s)

/-- `BIT 6,E` (R303). -/
def execBit_6_E (s : State) : Outcome := .next (opBit 6 (s.get8 .E) s)

/-- `BIT 6,H` (R303). -/
def execBit_6_H (s : State) : Outcome := .next (opBit 6 (s.get8 .H) s)

/-- `BIT 6,L` (R303). -/
def execBit_6_L (s : State) : Outcome := .next (opBit 6 (s.get8 .L) s)

/-- `BIT 6,(HL)` (R303). -/
def execBit_6_mHL (s : State) : Outcome := .next (opBitM 6 s)

/-- `BIT 6,A` (R303). -/
def execBit_6_A (s : State) : Outcome := .next (opBit 6 (s.get8 .A) s)

/-- `BIT 7,B` (R303). -/
def execBit_7_B (s : State) : Outcome := .next (opBit 7 (s.get8 .B) s)

/-- `BIT 7,C` (R303). -/
def execBit_7_C (s : State) : Outcome := .next (opBit 7 (s.get8 .C) s)

/-- `BIT 7,D` (R303). -/
def execBit_7_D (s : State) : Outcome := .next (opBit 7 (s.get8 .D) s)

/-- `BIT 7,E` (R303). -/
def execBit_7_E (s : State) : Outcome := .next (opBit 7 (s.get8 .E) s)

/-- `BIT 7,H` (R303). -/
def execBit_7_H (s : State) : Outcome := .next (opBit 7 (s.get8 .H) s)

/-- `BIT 7,L` (R303). -/
def execBit_7_L (s : State) : Outcome := .next (opBit 7 (s.get8 .L) s)

/-- `BIT 7,(HL)` (R303). -/
def execBit_7_mHL (s : State) : Outcome := .next (opBitM 7 s)

/-- `BIT 7,A` (R303). -/
def execBit_7_A (s : State) : Outcome := .next (opBit 7 (s.get8 .A) s)

/-- `RES 0,B` (R304). -/
def execRes_0_B (s : State) : Outcome := .next (s.set8 .B (resBit (s.get8 .B) 0))

/-- `RES 0,C` (R304). -/
def execRes_0_C (s : State) : Outcome := .next (s.set8 .C (resBit (s.get8 .C) 0))

/-- `RES 0,D` (R304). -/
def execRes_0_D (s : State) : Outcome := .next (s.set8 .D (resBit (s.get8 .D) 0))

/-- `RES 0,E` (R304). -/
def execRes_0_E (s : State) : Outcome := .next (s.set8 .E (resBit (s.get8 .E) 0))

/-- `RES 0,H` (R304). -/
def execRes_0_H (s : State) : Outcome := .next (s.set8 .H (resBit (s.get8 .H) 0))

/-- `RES 0,L` (R304). -/
def execRes_0_L (s : State) : Outcome := .next (s.set8 .L (resBit (s.get8 .L) 0))

/-- `RES 0,(HL)` (R304). -/
def execRes_0_mHL (s : State) : Outcome := .next (opPutM (fun v => resBit v 0) s)

/-- `RES 0,A` (R304). -/
def execRes_0_A (s : State) : Outcome := .next (s.set8 .A (resBit (s.get8 .A) 0))

/-- `RES 1,B` (R304). -/
def execRes_1_B (s : State) : Outcome := .next (s.set8 .B (resBit (s.get8 .B) 1))

/-- `RES 1,C` (R304). -/
def execRes_1_C (s : State) : Outcome := .next (s.set8 .C (resBit (s.get8 .C) 1))

/-- `RES 1,D` (R304). -/
def execRes_1_D (s : State) : Outcome := .next (s.set8 .D (resBit (s.get8 .D) 1))

/-- `RES 1,E` (R304). -/
def execRes_1_E (s : State) : Outcome := .next (s.set8 .E (resBit (s.get8 .E) 1))

/-- `RES 1,H` (R304). -/
def execRes_1_H (s : State) : Outcome := .next (s.set8 .H (resBit (s.get8 .H) 1))

/-- `RES 1,L` (R304). -/
def execRes_1_L (s : State) : Outcome := .next (s.set8 .L (resBit (s.get8 .L) 1))

/-- `RES 1,(HL)` (R304). -/
def execRes_1_mHL (s : State) : Outcome := .next (opPutM (fun v => resBit v 1) s)

/-- `RES 1,A` (R304). -/
def execRes_1_A (s : State) : Outcome := .next (s.set8 .A (resBit (s.get8 .A) 1))

/-- `RES 2,B` (R304). -/
def execRes_2_B (s : State) : Outcome := .next (s.set8 .B (resBit (s.get8 .B) 2))

/-- `RES 2,C` (R304). -/
def execRes_2_C (s : State) : Outcome := .next (s.set8 .C (resBit (s.get8 .C) 2))

/-- `RES 2,D` (R304). -/
def execRes_2_D (s : State) : Outcome := .next (s.set8 .D (resBit (s.get8 .D) 2))

/-- `RES 2,E` (R304). -/
def execRes_2_E (s : State) : Outcome := .next (s.set8 .E (resBit (s.get8 .E) 2))

/-- `RES 2,H` (R304). -/
def execRes_2_H (s : State) : Outcome := .next (s.set8 .H (resBit (s.get8 .H) 2))

/-- `RES 2,L` (R304). -/
def execRes_2_L (s : State) : Outcome := .next (s.set8 .L (resBit (s.get8 .L) 2))

/-- `RES 2,(HL)` (R304). -/
def execRes_2_mHL (s : State) : Outcome := .next (opPutM (fun v => resBit v 2) s)

/-- `RES 2,A` (R304). -/
def execRes_2_A (s : State) : Outcome := .next (s.set8 .A (resBit (s.get8 .A) 2))

/-- `RES 3,B` (R304). -/
def execRes_3_B (s : State) : Outcome := .next (s.set8 .B (resBit (s.get8 .B) 3))

/-- `RES 3,C` (R304). -/
def execRes_3_C (s : State) : Outcome := .next (s.set8 .C (resBit (s.get8 .C) 3))

/-- `RES 3,D` (R304). -/
def execRes_3_D (s : State) : Outcome := .next (s.set8 .D (resBit (s.get8 .D) 3))

/-- `RES 3,E` (R304). -/
def execRes_3_E (s : State) : Outcome := .next (s.set8 .E (resBit (s.get8 .E) 3))

/-- `RES 3,H` (R304). -/
def execRes_3_H (s : State) : Outcome := .next (s.set8 .H (resBit (s.get8 .H) 3))

/-- `RES 3,L` (R304). -/
def execRes_3_L (s : State) : Outcome := .next (s.set8 .L (resBit (s.get8 .L) 3))

/-- `RES 3,(HL)` (R304). -/
def execRes_3_mHL (s : State) : Outcome := .next (opPutM (fun v => resBit v 3) s)

/-- `RES 3,A` (R304). -/
def execRes_3_A (s : State) : Outcome := .next (s.set8 .A (resBit (s.get8 .A) 3))

/-- `RES 4,B` (R304). -/
def execRes_4_B (s : State) : Outcome := .next (s.set8 .B (resBit (s.get8 .B) 4))

/-- `RES 4,C` (R304). -/
def execRes_4_C (s : State) : Outcome := .next (s.set8 .C (resBit (s.get8 .C) 4))

/-- `RES 4,D` (R304). -/
def execRes_4_D (s : State) : Outcome := .next (s.set8 .D (resBit (s.get8 .D) 4))

/-- `RES 4,E` (R304). -/
def execRes_4_E (s : State) : Outcome := .next (s.set8 .E (resBit (s.get8 .E) 4))

/-- `RES 4,H` (R304). -/
def execRes_4_H (s : State) : Outcome := .next (s.set8 .H (resBit (s.get8 .H) 4))

/-- `RES 4,L` (R304). -/
def execRes_4_L (s : State) : Outcome := .next (s.set8 .L (resBit (s.get8 .L) 4))

/-- `RES 4,(HL)` (R304). -/
def execRes_4_mHL (s : State) : Outcome := .next (opPutM (fun v => resBit v 4) s)

/-- `RES 4,A` (R304). -/
def execRes_4_A (s : State) : Outcome := .next (s.set8 .A (resBit (s.get8 .A) 4))

/-- `RES 5,B` (R304). -/
def execRes_5_B (s : State) : Outcome := .next (s.set8 .B (resBit (s.get8 .B) 5))

/-- `RES 5,C` (R304). -/
def execRes_5_C (s : State) : Outcome := .next (s.set8 .C (resBit (s.get8 .C) 5))

/-- `RES 5,D` (R304). -/
def execRes_5_D (s : State) : Outcome := .next (s.set8 .D (resBit (s.get8 .D) 5))

/-- `RES 5,E` (R304). -/
def execRes_5_E (s : State) : Outcome := .next (s.set8 .E (resBit (s.get8 .E) 5))

/-- `RES 5,H` (R304). -/
def execRes_5_H (s : State) : Outcome := .next (s.set8 .H (resBit (s.get8 .H) 5))

/-- `RES 5,L` (R304). -/
def execRes_5_L (s : State) : Outcome := .next (s.set8 .L (resBit (s.get8 .L) 5))

/-- `RES 5,(HL)` (R304). -/
def execRes_5_mHL (s : State) : Outcome := .next (opPutM (fun v => resBit v 5) s)

/-- `RES 5,A` (R304). -/
def execRes_5_A (s : State) : Outcome := .next (s.set8 .A (resBit (s.get8 .A) 5))

/-- `RES 6,B` (R304). -/
def execRes_6_B (s : State) : Outcome := .next (s.set8 .B (resBit (s.get8 .B) 6))

/-- `RES 6,C` (R304). -/
def execRes_6_C (s : State) : Outcome := .next (s.set8 .C (resBit (s.get8 .C) 6))

/-- `RES 6,D` (R304). -/
def execRes_6_D (s : State) : Outcome := .next (s.set8 .D (resBit (s.get8 .D) 6))

/-- `RES 6,E` (R304). -/
def execRes_6_E (s : State) : Outcome := .next (s.set8 .E (resBit (s.get8 .E) 6))

/-- `RES 6,H` (R304). -/
def execRes_6_H (s : State) : Outcome := .next (s.set8 .H (resBit (s.get8 .H) 6))

/-- `RES 6,L` (R304). -/
def execRes_6_L (s : State) : Outcome := .next (s.set8 .L (resBit (s.get8 .L) 6))

/-- `RES 6,(HL)` (R304). -/
def execRes_6_mHL (s : State) : Outcome := .next (opPutM (fun v => resBit v 6) s)

/-- `RES 6,A` (R304). -/
def execRes_6_A (s : State) : Outcome := .next (s.set8 .A (resBit (s.get8 .A) 6))

/-- `RES 7,B` (R304). -/
def execRes_7_B (s : State) : Outcome := .next (s.set8 .B (resBit (s.get8 .B) 7))

/-- `RES 7,C` (R304). -/
def execRes_7_C (s : State) : Outcome := .next (s.set8 .C (resBit (s.get8 .C) 7))

/-- `RES 7,D` (R304). -/
def execRes_7_D (s : State) : Outcome := .next (s.set8 .D (resBit (s.get8 .D) 7))

/-- `RES 7,E` (R304). -/
def execRes_7_E (s : State) : Outcome := .next (s.set8 .E (resBit (s.get8 .E) 7))

/-- `RES 7,H` (R304). -/
def execRes_7_H (s : State) : Outcome := .next (s.set8 .H (resBit (s.get8 .H) 7))

/-- `RES 7,L` (R304). -/
def execRes_7_L (s : State) : Outcome := .next (s.set8 .L (resBit (s.get8 .L) 7))

/-- `RES 7,(HL)` (R304). -/
def execRes_7_mHL (s : State) : Outcome := .next (opPutM (fun v => resBit v 7) s)

/-- `RES 7,A` (R304). -/
def execRes_7_A (s : State) : Outcome := .next (s.set8 .A (resBit (s.get8 .A) 7))

/-- `SET 0,B` (R305). -/
def execSet_0_B (s : State) : Outcome := .next (s.set8 .B (setBit (s.get8 .B) 0))

/-- `SET 0,C` (R305). -/
def execSet_0_C (s : State) : Outcome := .next (s.set8 .C (setBit (s.get8 .C) 0))

/-- `SET 0,D` (R305). -/
def execSet_0_D (s : State) : Outcome := .next (s.set8 .D (setBit (s.get8 .D) 0))

/-- `SET 0,E` (R305). -/
def execSet_0_E (s : State) : Outcome := .next (s.set8 .E (setBit (s.get8 .E) 0))

/-- `SET 0,H` (R305). -/
def execSet_0_H (s : State) : Outcome := .next (s.set8 .H (setBit (s.get8 .H) 0))

/-- `SET 0,L` (R305). -/
def execSet_0_L (s : State) : Outcome := .next (s.set8 .L (setBit (s.get8 .L) 0))

/-- `SET 0,(HL)` (R305). -/
def execSet_0_mHL (s : State) : Outcome := .next (opPutM (fun v => setBit v 0) s)

/-- `SET 0,A` (R305). -/
def execSet_0_A (s : State) : Outcome := .next (s.set8 .A (setBit (s.get8 .A) 0))

/-- `SET 1,B` (R305). -/
def execSet_1_B (s : State) : Outcome := .next (s.set8 .B (setBit (s.get8 .B) 1))

/-- `SET 1,C` (R305). -/
def execSet_1_C (s : State) : Outcome := .next (s.set8 .C (setBit (s.get8 .C) 1))

/-- `SET 1,D` (R305). -/
def execSet_1_D (s : State) : Outcome := .next (s.set8 .D (setBit (s.get8 .D) 1))

/-- `SET 1,E` (R305). -/
def execSet_1_E (s : State) : Outcome := .next (s.set8 .E (setBit (s.get8 .E) 1))

/-- `SET 1,H` (R305). -/
def execSet_1_H (s : State) : Outcome := .next (s.set8 .H (setBit (s.get8 .H) 1))

/-- `SET 1,L` (R305). -/
def execSet_1_L (s : State) : Outcome := .next (s.set8 .L (setBit (s.get8 .L) 1))

/-- `SET 1,(HL)` (R305). -/
def execSet_1_mHL (s : State) : Outcome := .next (opPutM (fun v => setBit v 1) s)

/-- `SET 1,A` (R305). -/
def execSet_1_A (s : State) : Outcome := .next (s.set8 .A (setBit (s.get8 .A) 1))

/-- `SET 2,B` (R305). -/
def execSet_2_B (s : State) : Outcome := .next (s.set8 .B (setBit (s.get8 .B) 2))

/-- `SET 2,C` (R305). -/
def execSet_2_C (s : State) : Outcome := .next (s.set8 .C (setBit (s.get8 .C) 2))

/-- `SET 2,D` (R305). -/
def execSet_2_D (s : State) : Outcome := .next (s.set8 .D (setBit (s.get8 .D) 2))

/-- `SET 2,E` (R305). -/
def execSet_2_E (s : State) : Outcome := .next (s.set8 .E (setBit (s.get8 .E) 2))

/-- `SET 2,H` (R305). -/
def execSet_2_H (s : State) : Outcome := .next (s.set8 .H (setBit (s.get8 .H) 2))

/-- `SET 2,L` (R305). -/
def execSet_2_L (s : State) : Outcome := .next (s.set8 .L (setBit (s.get8 .L) 2))

/-- `SET 2,(HL)` (R305). -/
def execSet_2_mHL (s : State) : Outcome := .next (opPutM (fun v => setBit v 2) s)

/-- `SET 2,A` (R305). -/
def execSet_2_A (s : State) : Outcome := .next (s.set8 .A (setBit (s.get8 .A) 2))

/-- `SET 3,B` (R305). -/
def execSet_3_B (s : State) : Outcome := .next (s.set8 .B (setBit (s.get8 .B) 3))

/-- `SET 3,C` (R305). -/
def execSet_3_C (s : State) : Outcome := .next (s.set8 .C (setBit (s.get8 .C) 3))

/-- `SET 3,D` (R305). -/
def execSet_3_D (s : State) : Outcome := .next (s.set8 .D (setBit (s.get8 .D) 3))

/-- `SET 3,E` (R305). -/
def execSet_3_E (s : State) : Outcome := .next (s.set8 .E (setBit (s.get8 .E) 3))

/-- `SET 3,H` (R305). -/
def execSet_3_H (s : State) : Outcome := .next (s.set8 .H (setBit (s.get8 .H) 3))

/-- `SET 3,L` (R305). -/
def execSet_3_L (s : State) : Outcome := .next (s.set8 .L (setBit (s.get8 .L) 3))

/-- `SET 3,(HL)` (R305). -/
def execSet_3_mHL (s : State) : Outcome := .next (opPutM (fun v => setBit v 3) s)

/-- `SET 3,A` (R305). -/
def execSet_3_A (s : State) : Outcome := .next (s.set8 .A (setBit (s.get8 .A) 3))

/-- `SET 4,B` (R305). -/
def execSet_4_B (s : State) : Outcome := .next (s.set8 .B (setBit (s.get8 .B) 4))

/-- `SET 4,C` (R305). -/
def execSet_4_C (s : State) : Outcome := .next (s.set8 .C (setBit (s.get8 .C) 4))

/-- `SET 4,D` (R305). -/
def execSet_4_D (s : State) : Outcome := .next (s.set8 .D (setBit (s.get8 .D) 4))

/-- `SET 4,E` (R305). -/
def execSet_4_E (s : State) : Outcome := .next (s.set8 .E (setBit (s.get8 .E) 4))

/-- `SET 4,H` (R305). -/
def execSet_4_H (s : State) : Outcome := .next (s.set8 .H (setBit (s.get8 .H) 4))

/-- `SET 4,L` (R305). -/
def execSet_4_L (s : State) : Outcome := .next (s.set8 .L (setBit (s.get8 .L) 4))

/-- `SET 4,(HL)` (R305). -/
def execSet_4_mHL (s : State) : Outcome := .next (opPutM (fun v => setBit v 4) s)

/-- `SET 4,A` (R305). -/
def execSet_4_A (s : State) : Outcome := .next (s.set8 .A (setBit (s.get8 .A) 4))

/-- `SET 5,B` (R305). -/
def execSet_5_B (s : State) : Outcome := .next (s.set8 .B (setBit (s.get8 .B) 5))

/-- `SET 5,C` (R305). -/
def execSet_5_C (s : State) : Outcome := .next (s.set8 .C (setBit (s.get8 .C) 5))

/-- `SET 5,D` (R305). -/
def execSet_5_D (s : State) : Outcome := .next (s.set8 .D (setBit (s.get8 .D) 5))

/-- `SET 5,E` (R305). -/
def execSet_5_E (s : State) : Outcome := .next (s.set8 .E (setBit (s.get8 .E) 5))

/-- `SET 5,H` (R305). -/
def execSet_5_H (s : State) : Outcome := .next (s.set8 .H (setBit (s.get8 .H) 5))

/-- `SET 5,L` (R305). -/
def execSet_5_L (s : State) : Outcome := .next (s.set8 .L (setBit (s.get8 .L) 5))

/-- `SET 5,(HL)` (R305). -/
def execSet_5_mHL (s : State) : Outcome := .next (opPutM (fun v => setBit v 5) s)

/-- `SET 5,A` (R305). -/
def execSet_5_A (s : State) : Outcome := .next (s.set8 .A (setBit (s.get8 .A) 5))

/-- `SET 6,B` (R305). -/
def execSet_6_B (s : State) : Outcome := .next (s.set8 .B (setBit (s.get8 .B) 6))

/-- `SET 6,C` (R305). -/
def execSet_6_C (s : State) : Outcome := .next (s.set8 .C (setBit (s.get8 .C) 6))

/-- `SET 6,D` (R305). -/
def execSet_6_D (s : State) : Outcome := .next (s.set8 .D (setBit (s.get8 .D) 6))

/-- `SET 6,E` (R305). -/
def execSet_6_E (s : State) : Outcome := .next (s.set8 .E (setBit (s.get8 .E) 6))

/-- `SET 6,H` (R305). -/
def execSet_6_H (s : State) : Outcome := .next (s.set8 .H (setBit (s.get8 .H) 6))

/-- `SET 6,L` (R305). -/
def execSet_6_L (s : State) : Outcome := .next (s.set8 .L (setBit (s.get8 .L) 6))

/-- `SET 6,(HL)` (R305). -/
def execSet_6_mHL (s : State) : Outcome := .next (opPutM (fun v => setBit v 6) s)

/-- `SET 6,A` (R305). -/
def execSet_6_A (s : State) : Outcome := .next (s.set8 .A (setBit (s.get8 .A) 6))

/-- `SET 7,B` (R305). -/
def execSet_7_B (s : State) : Outcome := .next (s.set8 .B (setBit (s.get8 .B) 7))

/-- `SET 7,C` (R305). -/
def execSet_7_C (s : State) : Outcome := .next (s.set8 .C (setBit (s.get8 .C) 7))

/-- `SET 7,D` (R305). -/
def execSet_7_D (s : State) : Outcome := .next (s.set8 .D (setBit (s.get8 .D) 7))

/-- `SET 7,E` (R305). -/
def execSet_7_E (s : State) : Outcome := .next (s.set8 .E (setBit (s.get8 .E) 7))

/-- `SET 7,H` (R305). -/
def execSet_7_H (s : State) : Outcome := .next (s.set8 .H (setBit (s.get8 .H) 7))

/-- `SET 7,L` (R305). -/
def execSet_7_L (s : State) : Outcome := .next (s.set8 .L (setBit (s.get8 .L) 7))

/-- `SET 7,(HL)` (R305). -/
def execSet_7_mHL (s : State) : Outcome := .next (opPutM (fun v => setBit v 7) s)

/-- `SET 7,A` (R305). -/
def execSet_7_A (s : State) : Outcome := .next (s.set8 .A (setBit (s.get8 .A) 7))

end Sys2Proof.Machine
end

