-- ==== Sys2Proof/Machine/Prefixed.lean ====
section
/-! DEFINITION. The prefix byte 0xCB (46_system_control.md R345): the meanings behind it by their second byte
(30_encoding.md R176), and the meaning of the prefix itself. -/
namespace Sys2Proof.Machine

/-- The meanings of the second bytes 0x00 to 0x0F. -/
def prefixedRow0 : List (State → Outcome) :=
  [execRlc_B, execRlc_C, execRlc_D, execRlc_E,
   execRlc_H, execRlc_L, execRlc_mHL, execRlc_A,
   execRrc_B, execRrc_C, execRrc_D, execRrc_E,
   execRrc_H, execRrc_L, execRrc_mHL, execRrc_A]

/-- The meanings of the second bytes 0x10 to 0x1F. -/
def prefixedRow1 : List (State → Outcome) :=
  [execRl_B, execRl_C, execRl_D, execRl_E,
   execRl_H, execRl_L, execRl_mHL, execRl_A,
   execRr_B, execRr_C, execRr_D, execRr_E,
   execRr_H, execRr_L, execRr_mHL, execRr_A]

/-- The meanings of the second bytes 0x20 to 0x2F. -/
def prefixedRow2 : List (State → Outcome) :=
  [execSla_B, execSla_C, execSla_D, execSla_E,
   execSla_H, execSla_L, execSla_mHL, execSla_A,
   execSra_B, execSra_C, execSra_D, execSra_E,
   execSra_H, execSra_L, execSra_mHL, execSra_A]

/-- The meanings of the second bytes 0x30 to 0x3F. -/
def prefixedRow3 : List (State → Outcome) :=
  [execSwap_B, execSwap_C, execSwap_D, execSwap_E,
   execSwap_H, execSwap_L, execSwap_mHL, execSwap_A,
   execSrl_B, execSrl_C, execSrl_D, execSrl_E,
   execSrl_H, execSrl_L, execSrl_mHL, execSrl_A]

/-- The meanings of the second bytes 0x40 to 0x4F. -/
def prefixedRow4 : List (State → Outcome) :=
  [execBit_0_B, execBit_0_C, execBit_0_D, execBit_0_E,
   execBit_0_H, execBit_0_L, execBit_0_mHL, execBit_0_A,
   execBit_1_B, execBit_1_C, execBit_1_D, execBit_1_E,
   execBit_1_H, execBit_1_L, execBit_1_mHL, execBit_1_A]

/-- The meanings of the second bytes 0x50 to 0x5F. -/
def prefixedRow5 : List (State → Outcome) :=
  [execBit_2_B, execBit_2_C, execBit_2_D, execBit_2_E,
   execBit_2_H, execBit_2_L, execBit_2_mHL, execBit_2_A,
   execBit_3_B, execBit_3_C, execBit_3_D, execBit_3_E,
   execBit_3_H, execBit_3_L, execBit_3_mHL, execBit_3_A]

/-- The meanings of the second bytes 0x60 to 0x6F. -/
def prefixedRow6 : List (State → Outcome) :=
  [execBit_4_B, execBit_4_C, execBit_4_D, execBit_4_E,
   execBit_4_H, execBit_4_L, execBit_4_mHL, execBit_4_A,
   execBit_5_B, execBit_5_C, execBit_5_D, execBit_5_E,
   execBit_5_H, execBit_5_L, execBit_5_mHL, execBit_5_A]

/-- The meanings of the second bytes 0x70 to 0x7F. -/
def prefixedRow7 : List (State → Outcome) :=
  [execBit_6_B, execBit_6_C, execBit_6_D, execBit_6_E,
   execBit_6_H, execBit_6_L, execBit_6_mHL, execBit_6_A,
   execBit_7_B, execBit_7_C, execBit_7_D, execBit_7_E,
   execBit_7_H, execBit_7_L, execBit_7_mHL, execBit_7_A]

/-- The meanings of the second bytes 0x80 to 0x8F. -/
def prefixedRow8 : List (State → Outcome) :=
  [execRes_0_B, execRes_0_C, execRes_0_D, execRes_0_E,
   execRes_0_H, execRes_0_L, execRes_0_mHL, execRes_0_A,
   execRes_1_B, execRes_1_C, execRes_1_D, execRes_1_E,
   execRes_1_H, execRes_1_L, execRes_1_mHL, execRes_1_A]

/-- The meanings of the second bytes 0x90 to 0x9F. -/
def prefixedRow9 : List (State → Outcome) :=
  [execRes_2_B, execRes_2_C, execRes_2_D, execRes_2_E,
   execRes_2_H, execRes_2_L, execRes_2_mHL, execRes_2_A,
   execRes_3_B, execRes_3_C, execRes_3_D, execRes_3_E,
   execRes_3_H, execRes_3_L, execRes_3_mHL, execRes_3_A]

/-- The meanings of the second bytes 0xA0 to 0xAF. -/
def prefixedRowA : List (State → Outcome) :=
  [execRes_4_B, execRes_4_C, execRes_4_D, execRes_4_E,
   execRes_4_H, execRes_4_L, execRes_4_mHL, execRes_4_A,
   execRes_5_B, execRes_5_C, execRes_5_D, execRes_5_E,
   execRes_5_H, execRes_5_L, execRes_5_mHL, execRes_5_A]

/-- The meanings of the second bytes 0xB0 to 0xBF. -/
def prefixedRowB : List (State → Outcome) :=
  [execRes_6_B, execRes_6_C, execRes_6_D, execRes_6_E,
   execRes_6_H, execRes_6_L, execRes_6_mHL, execRes_6_A,
   execRes_7_B, execRes_7_C, execRes_7_D, execRes_7_E,
   execRes_7_H, execRes_7_L, execRes_7_mHL, execRes_7_A]

/-- The meanings of the second bytes 0xC0 to 0xCF. -/
def prefixedRowC : List (State → Outcome) :=
  [execSet_0_B, execSet_0_C, execSet_0_D, execSet_0_E,
   execSet_0_H, execSet_0_L, execSet_0_mHL, execSet_0_A,
   execSet_1_B, execSet_1_C, execSet_1_D, execSet_1_E,
   execSet_1_H, execSet_1_L, execSet_1_mHL, execSet_1_A]

/-- The meanings of the second bytes 0xD0 to 0xDF. -/
def prefixedRowD : List (State → Outcome) :=
  [execSet_2_B, execSet_2_C, execSet_2_D, execSet_2_E,
   execSet_2_H, execSet_2_L, execSet_2_mHL, execSet_2_A,
   execSet_3_B, execSet_3_C, execSet_3_D, execSet_3_E,
   execSet_3_H, execSet_3_L, execSet_3_mHL, execSet_3_A]

/-- The meanings of the second bytes 0xE0 to 0xEF. -/
def prefixedRowE : List (State → Outcome) :=
  [execSet_4_B, execSet_4_C, execSet_4_D, execSet_4_E,
   execSet_4_H, execSet_4_L, execSet_4_mHL, execSet_4_A,
   execSet_5_B, execSet_5_C, execSet_5_D, execSet_5_E,
   execSet_5_H, execSet_5_L, execSet_5_mHL, execSet_5_A]

/-- The meanings of the second bytes 0xF0 to 0xFF. -/
def prefixedRowF : List (State → Outcome) :=
  [execSet_6_B, execSet_6_C, execSet_6_D, execSet_6_E,
   execSet_6_H, execSet_6_L, execSet_6_mHL, execSet_6_A,
   execSet_7_B, execSet_7_C, execSet_7_D, execSet_7_E,
   execSet_7_H, execSet_7_L, execSet_7_mHL, execSet_7_A]

/-- The sixteen rows. -/
def prefixedRows : List (List (State → Outcome)) :=
  [prefixedRow0, prefixedRow1, prefixedRow2, prefixedRow3, prefixedRow4, prefixedRow5, prefixedRow6, prefixedRow7,
   prefixedRow8, prefixedRow9, prefixedRowA, prefixedRowB, prefixedRowC, prefixedRowD, prefixedRowE, prefixedRowF]

/-- The meaning that a second byte selects (R176): all 256 values are defined. -/
def execPrefixed (op2 : Byte) : State → Outcome :=
  (prefixedRows.getD (op2.toNat / 16) []).getD (op2.toNat % 16) execRlc_B

/-- `PREFIX CB` (R345): `op2 <- Fetch8()`, then the instruction `op2` selects. -/
def execPrefixCB (s : State) : Outcome := execPrefixed (fetch8 s).1 (fetch8 s).2

end Sys2Proof.Machine
end

