-- ==== Sys2Proof/Machine/System.lean ====
section
/-! DEFINITION. System control (46_system_control.md R340 to R346): NOP, HALT, STOP, DI, EI and the eleven undefined
opcodes. The prefix byte is in Prefixed.lean. Every meaning stands after the fetch of the whole
instruction: `pc` is the address of the next one (log entry 5). -/
namespace Sys2Proof.Machine

/-- `STOP` (R342): the divider reset, then the speed switch or the stop state. -/
def opStop (s : State) : State :=
  if s.cgb && s.speed.prepare then
    { s with timer := s.timer.divReset, speed := ⟨!s.speed.doubleSpeed, false⟩ }
  else { s with timer := s.timer.divReset, cpu := { s.cpu with stop := true } }

/-- `NOP` (R340). -/
def execNop (s : State) : Outcome := .next s

/-- `STOP` (R342). -/
def execStop (_pad : Byte) (s : State) : Outcome := .next (opStop s)

/-- `HALT` (R341). -/
def execHalt (s : State) : Outcome := .next (s.setHalt true)

/-- `ILLEGAL_D3` (R346). -/
def execIllegal_D3 (s : State) : Outcome := .next (raiseIllegal s)

/-- `ILLEGAL_DB` (R346). -/
def execIllegal_DB (s : State) : Outcome := .next (raiseIllegal s)

/-- `ILLEGAL_DD` (R346). -/
def execIllegal_DD (s : State) : Outcome := .next (raiseIllegal s)

/-- `ILLEGAL_E3` (R346). -/
def execIllegal_E3 (s : State) : Outcome := .next (raiseIllegal s)

/-- `ILLEGAL_E4` (R346). -/
def execIllegal_E4 (s : State) : Outcome := .next (raiseIllegal s)

/-- `ILLEGAL_EB` (R346). -/
def execIllegal_EB (s : State) : Outcome := .next (raiseIllegal s)

/-- `ILLEGAL_EC` (R346). -/
def execIllegal_EC (s : State) : Outcome := .next (raiseIllegal s)

/-- `ILLEGAL_ED` (R346). -/
def execIllegal_ED (s : State) : Outcome := .next (raiseIllegal s)

/-- `DI` (R343). -/
def execDi (s : State) : Outcome := .next ((s.setIme false).setImePending false)

/-- `ILLEGAL_F4` (R346). -/
def execIllegal_F4 (s : State) : Outcome := .next (raiseIllegal s)

/-- `EI` (R344). -/
def execEi (s : State) : Outcome := .next (s.setImePending true)

/-- `ILLEGAL_FC` (R346). -/
def execIllegal_FC (s : State) : Outcome := .next (raiseIllegal s)

/-- `ILLEGAL_FD` (R346). -/
def execIllegal_FD (s : State) : Outcome := .next (raiseIllegal s)

end Sys2Proof.Machine
end

