-- ==== Sys2Proof/Machine/CpuStep.lean ====
section
/-! DEFINITION. The CPU step (60_exceptions.md R400): fetching an instruction, the wake rules, the choice between frozen,
HDMA, dispatch, idle and instruction, and the delayed enable. -/
namespace Sys2Proof.Machine

/-- The opcode and the operand bytes its format has, each by `Fetch8()` (R161, R163): the instruction they are, and the
state after the fetches. No instruction does anything before its last byte is fetched (log entry 5). -/
def fetchInstr (s : State) : Instr × State :=
  let f0 := fetch8 s
  let f1 := fetch8 f0.2
  let f2 := fetch8 f1.2
  match opLength f0.1 with
  | 1 => (decodeInstr f0.1 0#8 0#8, f0.2)
  | 2 => (decodeInstr f0.1 f1.1 0#8, f1.2)
  | _ => (decodeInstr f0.1 f1.1 f2.1, f2.2)

/-- Halt wake (R413). -/
def wakeHalt (s : State) : State := s.setHalt (s.cpu.halt && s.irq.pending == 0#5)

/-- Stop wake (R415). -/
def wakeStop (s : State) : State := s.setStop (s.cpu.stop && s.joy.lines == 0xF#4)

/-- An interrupt is taken at this boundary (R400). -/
def dispatches (s : State) : Bool := !s.cpu.stop && s.cpu.ime && s.irq.pending != 0#5

/-- The delayed effect of `EI` (R401); `p` is `ime_pending` before the instruction. An undefined opcode is no instruction and
changes no other state (R346), so it does not bring the enable (DEDUCED, log entry 20). -/
def delayedEnable (p : Bool) (s : State) : State :=
  if p && s.cpu.imePending && !s.cpu.illegal then (s.setIme true).setImePending false else s

/-- One whole instruction (R400, R401). -/
def runInstr (s : State) : Outcome :=
  match exec (fetchInstr s).1 (fetchInstr s).2 with
  | .next t => .next (delayedEnable s.cpu.imePending t)
  | .fault r => .fault r
  | .refused r => .refused r

/-- The step after the wake rules (R400): dispatch, idle or one instruction. -/
def awakeStep (s : State) : Outcome :=
  if dispatches s then .next (dispatch s)
  else if s.cpu.halt || s.cpu.stop then .next (idleM s)
  else runInstr s

/-- `CpuStep()` (R400). A frozen CPU makes no step: the state does not change (R402). -/
def cpuStep (s : State) : Outcome :=
  if s.cpu.illegal then .next s
  else if hdmaHolds s then .next (hdmaStepM s)
  else awakeStep (wakeStop (wakeHalt s))

/-! ## Placing an instruction where the next step fetches it (for `State.withFetchWord`) -/

/-- A fetch at this address reads a plain storage cell: ROM, work RAM or HRAM. -/
def plainCell (a : Word) : Bool :=
  match regionOf a with
  | .rom _ | .wram0 _ | .wramN _ | .hram _ => true
  | _ => false

/-- The cell behind an address of ROM, work RAM or HRAM holds `v`. -/
def setCell (s : State) (a : Word) (v : Byte) : State :=
  match regionOf a with
  | .rom o => { s with cart := { s.cart with rom := s.cart.rom.write (s.cart.romOffset o) v } }
  | .wram0 o => { s with wram := s.wram.write o v }
  | .wramN o => { s with wram := s.wram.write (s.wramOff o) v }
  | .hram o => { s with hram := s.hram.write o v }
  | _ => s

/-- Bytes from an address on. -/
def setCells (s : State) (a : Word) : List Byte → State
  | [] => s
  | v :: vs => setCells (setCell s a v) (a + 1#16) vs

/-- Where the next instruction is placed: at `pc` if three bytes there are plain cells, else in work RAM at 0xC000 (log
entry 8). -/
def fetchSpot (s : State) : Word :=
  if plainCell s.cpu.pc && plainCell (s.cpu.pc + 1#16) && plainCell (s.cpu.pc + 2#16) then s.cpu.pc else 0xC000#16

/-- Nothing stands before the next fetch (log entry 8): not frozen, halted or stopped, no HDMA hold, no running OAM DMA, no
interrupt to take. -/
def readyToFetch (s : State) : State :=
  { s with
    cpu := { s.cpu with illegal := false, halt := false, stop := false,
                        ime := s.cpu.ime && s.irq.pending == 0#5 }
    hdma := if hdmaHolds s then { s.hdma with mode := .idle, blockReq := false } else s.hdma
    dma := { s.dma with active := false } }

/-- The state in which the next step fetches these bytes (log entry 8). -/
def placeFetch (s : State) (bytes : List Byte) : State :=
  setCells ((readyToFetch s).setPc (fetchSpot s)) (fetchSpot s) bytes

end Sys2Proof.Machine
end

