-- ==== Sys2Proof/Machine/Step.lean ====
section
/-! DEFINITION. One step of the machine, and the state in which a step runs a given instruction word. -/
namespace Sys2Proof.Machine

/-- One step: `CpuStep()` (60_exceptions.md R400). -/
def step (s : State) : Host.Outcome State Fault Refusal := cpuStep s

/-- `s` with an instruction word of the opcode table where the next step fetches (log entry 8). -/
def State.withFetchWord (s : State) (nbits w : Nat) : State := placeFetch s (tableBytes nbits w)

end Sys2Proof.Machine
end

