-- ==== Sys2Proof/Machine/HostPort.lean ====
section
/-! DEFINITION. The host's side of CORE's ports (10_state.md R31): attaching a cartridge image and power-on
(65_cartridge.md R651 to R656; 70_reset_and_hazards.md R700, R701), the reset port, and what the host does between steps:
driving `keys` and `now`, clearing `frame_done` and `audio_full`. No step calls anything in this file. -/
namespace Sys2Proof.Machine

open Sys2Proof.Config

/-- The save data a host may supply for a cartridge with a battery (R686). -/
structure SaveData where
  eram : List Byte
  mbc2Ram : List (BitVec 4)
  rtcLive : RtcRegs
  rtcLatched : RtcRegs
  deriving DecidableEq, Repr

/-- No save data: every byte and register 0. -/
def SaveData.zero : SaveData :=
  ⟨[], [], ⟨0#6, 0#6, 0#5, 0#8, false, false, false⟩, ⟨0#6, 0#6, 0#5, 0#8, false, false, false⟩⟩

/-- The kinds of mapper (R652). -/
inductive MapperKind where
  | none | mbc1 | mbc2 | mbc3 | mbc5
  deriving DecidableEq, Repr

/-- What a mapper-type code means: kind, battery, clock (R652). -/
def mapperOfCode (code : Byte) : Option (MapperKind × Bool × Bool) :=
  match code.toNat with
  | 0x00 | 0x08 => some (.none, false, false)
  | 0x09 => some (.none, true, false)
  | 0x01 | 0x02 => some (.mbc1, false, false)
  | 0x03 => some (.mbc1, true, false)
  | 0x05 => some (.mbc2, false, false)
  | 0x06 => some (.mbc2, true, false)
  | 0x0F | 0x10 => some (.mbc3, true, true)
  | 0x11 | 0x12 => some (.mbc3, false, false)
  | 0x13 => some (.mbc3, true, false)
  | 0x19 | 0x1A | 0x1C | 0x1D => some (.mbc5, false, false)
  | 0x1B | 0x1E => some (.mbc5, true, false)
  | _ => none

/-- `ROM_BANKS` of a ROM-size code (R653). -/
def romBanksOfCode (code : Byte) : Option Nat := if code.toNat ≤ 8 then some (2 <<< code.toNat) else none

/-- `RAM_BANKS` of a RAM-size code (R654). -/
def ramBanksOfCode (code : Byte) : Option Nat :=
  match code.toNat with
  | 0 => some 0 | 1 => some 1 | 2 => some 1 | 3 => some 4 | 4 => some 16 | 5 => some 8
  | _ => none

/-- A mapper at its reset values (R656), with the save data and the time at reset. -/
def mapperReset (kind : MapperKind) (hasRtc : Bool) (save : SaveData) (now : Int) : Mapper :=
  match kind with
  | .none => .none
  | .mbc1 => .mbc1 ⟨false, 1#5, 0#2, false⟩
  | .mbc2 => .mbc2 ⟨false, 1#4, Store.ofList 0 (save.mbc2Ram.take 512)⟩
  | .mbc3 => .mbc3 ⟨false, 1#7, 0#4, 0xFF#8, if hasRtc then some ⟨save.rtcLive, save.rtcLatched, now⟩ else none⟩
  | .mbc5 => .mbc5 ⟨false, 1#8, 0#1, 0#4⟩

/-- The save data that counts: only with a battery (R686). -/
def saveOf (battery : Bool) (save : SaveData) : SaveData := if battery then save else SaveData.zero

/-- The cartridge that an image configures, at its reset values, or why it is refused (R652 to R654; 93 U2 to U4). -/
def attach (image : List Byte) (save : SaveData) (now : Int) : Except Refusal Cart :=
  match image[0x147]?, image[0x148]?, image[0x149]? with
  | some tc, some rc, some ac =>
    match mapperOfCode tc, romBanksOfCode rc, ramBanksOfCode ac with
    | none, _, _ => .error (.unsupportedMapper tc)
    | _, none, _ => .error (.unsupportedRomSize rc)
    | _, _, none => .error (.unsupportedRamSize ac)
    | some (kind, battery, hasRtc), some romBanks, some ramBanks =>
      if image.length < romBanks * romBankSize then .error (.truncatedRom image.length)
      else
        let sv := saveOf battery save
        .ok { rom := Store.ofList 0 image
              eram := Store.ofList 0 (sv.eram.take (ramBanks * eramBankSize))
              romBanks := romBanks
              ramBanks := ramBanks
              hasBattery := battery
              mapper := mapperReset kind hasRtc sv now }
  | _, _, _ => .error (.truncatedRom image.length)

/-- `CGB` of an image (R3, R701). -/
def cgbOfImage (image : List Byte) : Bool := bit (image.getD 0x143 0#8) 7

/-- Power-on: the reset state of R700 with this cartridge, or the refusal of the configuration. -/
def powerOn (params : Params) (image : List Byte) (save : SaveData) (inputs : Inputs) : Except Refusal State :=
  match attach image save inputs.now with
  | .ok cart => .ok (State.resetWith (cgbOfImage image) params cart inputs)
  | .error r => .error r

/-- The mapper of a cartridge put back to its reset values (R656). -/
def Mapper.reset (m : Mapper) (save : SaveData) (now : Int) : Mapper :=
  match m with
  | .none => .none
  | .mbc1 _ => mapperReset .mbc1 false save now
  | .mbc2 _ => mapperReset .mbc2 false save now
  | .mbc3 x => mapperReset .mbc3 x.rtc.isSome save now
  | .mbc5 _ => mapperReset .mbc5 false save now

/-- The `reset` port (R700): every state element at its reset value; the image and the configuration stay, the save data
is the host's (log entry 16). -/
def resetPort (s : State) (save : SaveData) : State :=
  let sv := saveOf s.cart.hasBattery save
  State.resetWith (bit (s.cart.rom.read 0x143) 7) s.params
    { s.cart with eram := Store.ofList 0 (sv.eram.take (s.cart.ramBanks * eramBankSize)),
                  mapper := s.cart.mapper.reset sv s.inputs.now }
    s.inputs

/-- The host drives `keys` from now on, and the values of the next T-cycles (R473). -/
def driveKeys (s : State) (level : Byte) (next : List Byte) : State :=
  { s with inputs := { s.inputs with keys := level, keysIn := next } }

/-- The host drives `now` from now on, and the values of the next clock updates (R673). -/
def driveNow (s : State) (level : Int) (next : List Int) : State :=
  { s with inputs := { s.inputs with now := level, nowIn := next } }

/-- The host clears `frame_done` (R524). -/
def clearFrameDone (s : State) : State := { s with ppu := { s.ppu with frameDone := false } }

/-- The host clears `audio_full` (R621). -/
def clearAudioFull (s : State) : State := { s with apu := { s.apu with audioFull := false } }

end Sys2Proof.Machine
end

