-- ==== Sys2Proof/Safety.lean ====
section
/-! DEFINITION. The terms claims use: the cells of storage and the cell a store reaches, the passing of time, and the
properties that every step keeps. CORE has no fault, so a safe run is one that stays within these properties; it ends
only where `illegal` freezes the machine (60_exceptions.md R402). -/
namespace Sys2Proof.Machine

open Sys2Proof.Config

/-! ## Cells -/

/-- One byte of a storage array of 10_state.md R28, or a half-byte of the type-2 mapper's RAM (65_cartridge.md R665). -/
inductive Cell where
  | rom (off : Nat) | eram (off : Nat) | mbc2 (idx : Nat) | vram (off : Nat) | wram (off : Nat) | oam (off : Nat)
  | hram (off : Nat) | bgpal (k : Nat) | obpal (k : Nat) | wave (k : Nat)
  deriving DecidableEq, Repr

/-- The RAM of a type-2 mapper, empty for the other kinds. -/
def Mapper.mbc2Ram : Mapper → Store 4
  | .mbc2 m => m.ram
  | _ => []

/-- What a cell holds. -/
def State.cell (s : State) : Cell → Byte
  | .rom off => s.cart.rom.read off
  | .eram off => s.cart.eram.read off
  | .mbc2 k => (s.cart.mapper.mbc2Ram.read k).setWidth 8
  | .vram off => s.vram.read off
  | .wram off => s.wram.read off
  | .oam off => s.oam.read off
  | .hram off => s.hram.read off
  | .bgpal k => s.bgpal.read k
  | .obpal k => s.obpal.read k
  | .wave k => s.wave.read k

/-- The cell that a CPU store to a decoded address reaches, if it reaches one: not a register, not a blocked or absent
range (20_memory.md R111; 65_cartridge.md R658; 63_ppu.md R561; 64_apu.md R628). -/
def State.targetOfRegion (s : State) : Region → Option Cell
  | .vram off => if s.ppu.vramBlocked then none else some (.vram (s.vramOff off))
  | .cartRam a =>
    match s.cart.ramTarget a with
    | .eram off => some (.eram off)
    | .mbc2 k => some (.mbc2 k)
    | _ => none
  | .wram0 off => some (.wram off)
  | .wramN off => some (.wram (s.wramOff off))
  | .oam off => if oamBlocked s then none else some (.oam off)
  | .io lo =>
    match ioRegAt s.cgb lo with
    | some (.wave k) => if s.apu.ch3.en then none else some (.wave k)
    | some .bcpd => if palBlocked s s.params.palBlock.bcpd then none else some (.bgpal (cpsIndex s.ppu.bcps))
    | some .ocpd => if palBlocked s s.params.palBlock.ocpd then none else some (.obpal (cpsIndex s.ppu.ocps))
    | _ => none
  | .hram off => some (.hram off)
  | .rom _ | .unusable | .ie => none

/-- The cell that a CPU store to an address reaches. -/
def State.storeTarget (s : State) (a : Word) : Option Cell := s.targetOfRegion (regionOf a)

/-- What a cell holds after `v` is stored in it: a half-byte keeps bits 3:0 only. -/
def Cell.stored (c : Cell) (v : Byte) : Byte :=
  match c with
  | .mbc2 _ => v &&& 0x0F#8
  | _ => v

/-! ## Time -/

/-- `n` M-cycles pass with no CPU access. -/
def passM : Nat → State → State
  | 0, s => s
  | n + 1, s => passM n (advanceM s)

/-- Two states that differ at most in the CPU's own registers and flags. -/
def sameButCpu (s t : State) : Prop := { s with cpu := t.cpu } = t

end Sys2Proof.Machine

namespace Sys2Proof

open Sys2Proof.Machine

/-- The M-cycles an instruction takes after its bytes are fetched (70_reset_and_hazards.md R720, less its length); `f`
decides the taken and not-taken forms. -/
def Instr.cyclesAfterFetch (i : Instr) (f : Flags) : Nat :=
  match i with
  | .ld_B_mHL | .ld_C_mHL | .ld_D_mHL | .ld_E_mHL | .ld_H_mHL | .ld_L_mHL | .ld_A_mHL
  | .ld_mHL_B | .ld_mHL_C | .ld_mHL_D | .ld_mHL_E | .ld_mHL_H | .ld_mHL_L | .ld_mHL_A | .ld_mHL_n _
  | .ld_A_mBC | .ld_A_mDE | .ld_mBC_A | .ld_mDE_A | .ld_A_mnn _ | .ld_mnn_A _
  | .ldh_A_mC | .ldh_mC_A | .ldh_A_mn _ | .ldh_mn_A _
  | .ld_A_mHLinc | .ld_A_mHLdec | .ld_mHLinc_A | .ld_mHLdec_A => 1
  | .ld_mnn_SP _ => 2
  | .ld_SP_HL | .ld_HL_SPe _ => 1
  | .push_BC | .push_DE | .push_HL | .push_AF => 3
  | .pop_BC | .pop_DE | .pop_HL | .pop_AF => 2
  | .add_A_mHL | .adc_A_mHL | .sub_A_mHL | .sbc_A_mHL | .and_A_mHL | .xor_A_mHL | .or_A_mHL | .cp_A_mHL => 1
  | .inc_mHL | .dec_mHL => 2
  | .add_HL_BC | .add_HL_DE | .add_HL_HL | .add_HL_SP
  | .inc_BC | .inc_DE | .inc_HL | .inc_SP | .dec_BC | .dec_DE | .dec_HL | .dec_SP => 1
  | .add_SP_e _ => 2
  | .rlc_mHL | .rrc_mHL | .rl_mHL | .rr_mHL | .sla_mHL | .sra_mHL | .swap_mHL | .srl_mHL => 2
  | .bit_0_mHL | .bit_1_mHL | .bit_2_mHL | .bit_3_mHL | .bit_4_mHL | .bit_5_mHL | .bit_6_mHL | .bit_7_mHL => 1
  | .res_0_mHL | .res_1_mHL | .res_2_mHL | .res_3_mHL | .res_4_mHL | .res_5_mHL | .res_6_mHL | .res_7_mHL
  | .set_0_mHL | .set_1_mHL | .set_2_mHL | .set_3_mHL | .set_4_mHL | .set_5_mHL | .set_6_mHL | .set_7_mHL => 2
  | .jp_nn _ | .jr_e _ => 1
  | .jp_NZ_nn _ | .jr_NZ_e _ => if f.z then 0 else 1
  | .jp_Z_nn _ | .jr_Z_e _ => if f.z then 1 else 0
  | .jp_NC_nn _ | .jr_NC_e _ => if f.c then 0 else 1
  | .jp_C_nn _ | .jr_C_e _ => if f.c then 1 else 0
  | .call_nn _ | .rst_00 | .rst_08 | .rst_10 | .rst_18 | .rst_20 | .rst_28 | .rst_30 | .rst_38 => 3
  | .call_NZ_nn _ => if f.z then 0 else 3
  | .call_Z_nn _ => if f.z then 3 else 0
  | .call_NC_nn _ => if f.c then 0 else 3
  | .call_C_nn _ => if f.c then 3 else 0
  | .ret | .reti => 3
  | .ret_NZ => if f.z then 1 else 4
  | .ret_Z => if f.z then 4 else 1
  | .ret_NC => if f.c then 1 else 4
  | .ret_C => if f.c then 4 else 1
  | _ => 0

end Sys2Proof

namespace Sys2Proof.Machine

open Sys2Proof.Config

/-! ## Fetching -/

/-- The byte that the fetch number `k` of the next instruction reads: the one at `pc + k`, `k` M-cycles from now
(30_encoding.md R160, R161). -/
def State.fetchByte (s : State) (k : Nat) : Byte := busRead (passM k s) (s.cpu.pc + BitVec.ofNat 16 k)

/-- The instruction that the bytes at `pc` are, each read at its own M-cycle. -/
def State.nextInstr (s : State) : Instr := decodeInstr (s.fetchByte 0) (s.fetchByte 1) (s.fetchByte 2)

/-- The state after the fetch of an instruction of `n` bytes: `n` M-cycles have passed and `pc` is behind it. -/
def State.afterFetch (s : State) (n : Nat) : State := (passM n s).setPc (s.cpu.pc + BitVec.ofNat 16 n)

/-- The next step is a whole instruction (60_exceptions.md R400): not frozen, not held by HDMA, not halted or stopped, and no
interrupt to dispatch. -/
structure State.RunsInstr (s : State) : Prop where
  notFrozen : s.cpu.illegal = false
  notHeld : hdmaHolds s = false
  notHalted : s.cpu.halt = false
  notStopped : s.cpu.stop = false
  noInterrupt : s.cpu.ime = false ∨ s.irq.pending = 0#5

/-! ## Results and frames -/

/-- `A` and the four flags written, nothing else. -/
def State.setAF (s : State) (a : Byte) (z n h c : Bool) : State :=
  { s with cpu := { s.cpu with a := a, f := ⟨z, n, h, c⟩ } }

/-- One CPU store: the state it is made in, its address, its value. -/
structure BusStore where
  at_ : State
  addr : Word
  val : Byte

/-- The two stores of `Push16(v)` from a state (41_load16_stack.md R237). -/
def pushStores (s : State) (v : Word) : List BusStore :=
  let sp := s.cpu.sp
  [⟨s, sp - 1#16, hiByte v⟩, ⟨memWrite s (sp - 1#16) (hiByte v), sp - 2#16, loByte v⟩]

end Sys2Proof.Machine

namespace Sys2Proof

open Sys2Proof.Machine

/-- The stores an instruction makes, in order, from the state after its fetch. -/
def Instr.stores (i : Instr) (s : State) : List BusStore :=
  let hl := s.cpu.hl
  let rmw (f : Byte → Byte) : List BusStore := [⟨advanceM s, hl, f (busRead s hl)⟩]
  let rot (op : RotOp) := rmw fun v => (rotate op v s.cpu.f.c).1
  match i with
  | .ld_mHL_B => [⟨s, hl, s.cpu.b⟩] | .ld_mHL_C => [⟨s, hl, s.cpu.c⟩] | .ld_mHL_D => [⟨s, hl, s.cpu.d⟩]
  | .ld_mHL_E => [⟨s, hl, s.cpu.e⟩] | .ld_mHL_H => [⟨s, hl, s.cpu.h⟩] | .ld_mHL_L => [⟨s, hl, s.cpu.l⟩]
  | .ld_mHL_A => [⟨s, hl, s.cpu.a⟩] | .ld_mHL_n n => [⟨s, hl, n⟩]
  | .ld_mBC_A => [⟨s, s.cpu.bc, s.cpu.a⟩] | .ld_mDE_A => [⟨s, s.cpu.de, s.cpu.a⟩]
  | .ld_mHLinc_A | .ld_mHLdec_A => [⟨s, hl, s.cpu.a⟩]
  | .ld_mnn_A nn => [⟨s, nn, s.cpu.a⟩]
  | .ldh_mn_A n => [⟨s, highPage n, s.cpu.a⟩] | .ldh_mC_A => [⟨s, highPage s.cpu.c, s.cpu.a⟩]
  | .ld_mnn_SP nn =>
    [⟨s, nn, loByte s.cpu.sp⟩, ⟨memWrite s nn (loByte s.cpu.sp), nn + 1#16, hiByte s.cpu.sp⟩]
  | .push_BC => pushStores (advanceM s) s.cpu.bc | .push_DE => pushStores (advanceM s) s.cpu.de
  | .push_HL => pushStores (advanceM s) hl | .push_AF => pushStores (advanceM s) s.cpu.af
  | .inc_mHL => rmw (· + 1#8) | .dec_mHL => rmw (· - 1#8)
  | .rlc_mHL => rot .rlc | .rrc_mHL => rot .rrc | .rl_mHL => rot .rl | .rr_mHL => rot .rr
  | .sla_mHL => rot .sla | .sra_mHL => rot .sra | .swap_mHL => rot .swap | .srl_mHL => rot .srl
  | .res_0_mHL => rmw (resBit · 0) | .res_1_mHL => rmw (resBit · 1) | .res_2_mHL => rmw (resBit · 2)
  | .res_3_mHL => rmw (resBit · 3) | .res_4_mHL => rmw (resBit · 4) | .res_5_mHL => rmw (resBit · 5)
  | .res_6_mHL => rmw (resBit · 6) | .res_7_mHL => rmw (resBit · 7)
  | .set_0_mHL => rmw (setBit · 0) | .set_1_mHL => rmw (setBit · 1) | .set_2_mHL => rmw (setBit · 2)
  | .set_3_mHL => rmw (setBit · 3) | .set_4_mHL => rmw (setBit · 4) | .set_5_mHL => rmw (setBit · 5)
  | .set_6_mHL => rmw (setBit · 6) | .set_7_mHL => rmw (setBit · 7)
  | .call_nn _ | .rst_00 | .rst_08 | .rst_10 | .rst_18 | .rst_20 | .rst_28 | .rst_30 | .rst_38 =>
    pushStores (advanceM s) s.cpu.pc
  | .call_NZ_nn _ => if s.cpu.f.z then [] else pushStores (advanceM s) s.cpu.pc
  | .call_Z_nn _ => if s.cpu.f.z then pushStores (advanceM s) s.cpu.pc else []
  | .call_NC_nn _ => if s.cpu.f.c then [] else pushStores (advanceM s) s.cpu.pc
  | .call_C_nn _ => if s.cpu.f.c then pushStores (advanceM s) s.cpu.pc else []
  | _ => []

end Sys2Proof

namespace Sys2Proof.Machine

open Sys2Proof.Config

/-- `n` steps. -/
def runSteps : Nat → State → Outcome
  | 0, s => .next s
  | n + 1, s =>
    match step s with
    | .next t => runSteps n t
    | .fault r => .fault r
    | .refused r => .refused r

/-! ## The flag table (42_alu8.md R250) -/

/-- An entry of the table: `*`, `0`, `1` or `-`. -/
inductive FlagEffect where
  | result | zero | one | keep
  deriving DecidableEq, Repr

/-- What the entry says of a flag that was `old` before and is `new` after; `*` says nothing here. -/
def FlagEffect.holds (e : FlagEffect) (old new : Bool) : Prop :=
  match e with
  | .result => True
  | .zero => new = false
  | .one => new = true
  | .keep => new = old

/-- A row of the table: Z, N, Hf, Cf. -/
structure FlagRow where
  z : FlagEffect
  n : FlagEffect
  h : FlagEffect
  c : FlagEffect
  deriving DecidableEq, Repr

/-- The row of an instruction by its opcode byte and, behind the prefix, its second byte: the table of R250 with the opcodes
of the rules it names. An instruction not in the table keeps all four flags. -/
def flagRow (op op2 : Nat) : FlagRow :=
  if (0x80 ≤ op ∧ op < 0x90) ∨ op = 0xC6 ∨ op = 0xCE then ⟨.result, .zero, .result, .result⟩
  else if (0x90 ≤ op ∧ op < 0xA0) ∨ (0xB8 ≤ op ∧ op < 0xC0) ∨ op = 0xD6 ∨ op = 0xDE ∨ op = 0xFE then
    ⟨.result, .one, .result, .result⟩
  else if (0xA0 ≤ op ∧ op < 0xA8) ∨ op = 0xE6 then ⟨.result, .zero, .one, .zero⟩
  else if (0xA8 ≤ op ∧ op < 0xB8) ∨ op = 0xEE ∨ op = 0xF6 then ⟨.result, .zero, .zero, .zero⟩
  else if op < 0x40 ∧ op % 8 = 4 then ⟨.result, .zero, .result, .keep⟩
  else if op < 0x40 ∧ op % 8 = 5 then ⟨.result, .one, .result, .keep⟩
  else if op = 0x27 then ⟨.result, .keep, .zero, .result⟩
  else if op = 0x2F then ⟨.keep, .one, .one, .keep⟩
  else if op = 0x37 then ⟨.keep, .zero, .zero, .one⟩
  else if op = 0x3F then ⟨.keep, .zero, .zero, .result⟩
  else if op < 0x40 ∧ op % 16 = 9 then ⟨.keep, .zero, .result, .result⟩
  else if op = 0xE8 ∨ op = 0xF8 then ⟨.zero, .zero, .result, .result⟩
  else if op = 0x07 ∨ op = 0x0F ∨ op = 0x17 ∨ op = 0x1F then ⟨.zero, .zero, .zero, .result⟩
  else if op = 0xCB ∧ 0x30 ≤ op2 ∧ op2 < 0x38 then ⟨.result, .zero, .zero, .zero⟩
  else if op = 0xCB ∧ op2 < 0x40 then ⟨.result, .zero, .zero, .result⟩
  else if op = 0xCB ∧ op2 < 0x80 then ⟨.result, .zero, .one, .keep⟩
  else if op = 0xF1 then ⟨.result, .result, .result, .result⟩
  else ⟨.keep, .keep, .keep, .keep⟩

/-- The opcodes of the instructions that read and write `sp` by the list of 10_state.md R22 and change it: the loads of
`sp`, `ADD SP,e`, `INC SP`, `DEC SP`, PUSH, POP, CALL, RET, RETI, RST. -/
def spWriters : List Nat :=
  [0x31, 0x33, 0x3B, 0xF9, 0xE8, 0xC5, 0xD5, 0xE5, 0xF5, 0xC1, 0xD1, 0xE1, 0xF1, 0xCD, 0xC4, 0xCC, 0xD4, 0xDC,
   0xC9, 0xC0, 0xC8, 0xD0, 0xD8, 0xD9, 0xC7, 0xCF, 0xD7, 0xDF, 0xE7, 0xEF, 0xF7, 0xFF]

/-! ## Properties of states -/

/-- The RAM inside a mapper is in canonical form. -/
def Mapper.canonical (m : Mapper) : Prop := Store.wf m.mbc2Ram

/-- Every storage array is in canonical form (10_state.md R28). -/
structure State.Canonical (s : State) : Prop where
  vram : Memory.wf s.vram
  wram : Memory.wf s.wram
  oam : Memory.wf s.oam
  hram : Memory.wf s.hram
  bgpal : Memory.wf s.bgpal
  obpal : Memory.wf s.obpal
  wave : Memory.wf s.wave
  rom : Memory.wf s.cart.rom
  eram : Memory.wf s.cart.eram
  mbc2 : s.cart.mapper.canonical
  fb : Store.wf s.ppu.fb
  audioBuf : Store.wf s.apu.audioBuf

/-- At most one of halt and stop is active (10_state.md R27). -/
def State.HaltStopExclusive (s : State) : Prop := ¬ (s.cpu.halt = true ∧ s.cpu.stop = true)

/-- The ranges of 10_state.md R30 and the scanline picture of 63_ppu.md R511, R512, R530. -/
structure Ppu.Ok (p : Ppu) : Prop where
  ly : p.ly < lines
  lx : p.lx < lineT
  px : p.px ≤ linePixels
  spr : p.spr.length ≤ 10
  off : p.lcdOn = false → p.ly = 0 ∧ p.lx = 0 ∧ p.mode = .hblank
  vblank : p.lcdOn = true → (p.mode = .vblank ↔ visibleLines ≤ p.ly)
  scan : p.lcdOn = true → p.ly < visibleLines → (p.mode = .oamScan ↔ p.lx < mode2T)

/-- A channel is never enabled while its converter is off (64_apu.md R597), and every counter of the channels and of the
frame sequencer is in the range R581 gives, but for the period counter of channel 4, which reaches the longest period of R611
(log entry 14). -/
structure Apu.Ok (a : Apu) : Prop where
  dac1 : a.ch1.en = true → a.ch1.r2 ≠ 0#8
  dac2 : a.ch2.en = true → a.ch2.r2 ≠ 0#8
  dac3 : a.ch3.en = true → bit a.ch3.r0 7 = true
  dac4 : a.ch4.en = true → a.ch4.r2 ≠ 0#8
  vol1 : a.ch1.vol ≤ 15
  vol2 : a.ch2.vol ≤ 15
  vol4 : a.ch4.vol ≤ 15
  pcnt1 : a.ch1.pcnt ≤ 2048
  pcnt2 : a.ch2.pcnt ≤ 2048
  pcnt3 : a.ch3.pcnt ≤ 2048
  pcnt4 : a.ch4.pcnt ≤ 112 * 2 ^ 15
  env1 : a.ch1.envCnt ≤ 7
  env2 : a.ch2.envCnt ≤ 7
  env4 : a.ch4.envCnt ≤ 7
  len1 : a.ch1.len ≤ 64
  len2 : a.ch2.len ≤ 64
  len3 : a.ch3.len ≤ 256
  len4 : a.ch4.len ≤ 64
  sweep : a.sweepCnt ≤ 7
  duty1 : a.ch1.dutyPos < 8
  duty2 : a.ch2.dutyPos < 8
  wavePos : a.ch3.pos < 32
  phase : a.phase < 4
  fseqCnt : a.fseqCnt < fseqPeriodT
  fseqStep : a.fseqStep < 8

/-- The counters of the sample output stay below the two parameters that give their ranges (64_apu.md R581, R621). -/
structure State.SamplerOk (s : State) : Prop where
  sampleCnt : s.apu.sampleCnt < s.params.samplePeriod
  audioWr : s.apu.audioWr < s.params.audioBufSamples

/-- What only extended mode has stays at its reset value in monochrome mode (20_memory.md R124; 46_system_control.md R347;
62_dma_hdma.md R490). -/
structure State.MonoOk (s : State) : Prop where
  speed : s.cgb = false → s.speed = ⟨false, false⟩
  banks : s.cgb = false → s.banks = ⟨0#1, 0#3⟩
  hdma : s.cgb = false → s.hdma = Hdma.reset

/-- The transfer engines and the timer latch stay in their ranges (10_state.md R30; 62_dma_hdma.md R480, R491). -/
structure State.EnginesOk (s : State) : Prop where
  dmaIdx : s.dma.idx ≤ dmaLen
  dmaRunning : s.dma.active = true → s.dma.idx < dmaLen
  dmaSrc : loByte s.dma.src = 0#8
  hdmaDst : 0x8000 ≤ s.hdma.dst.toNat ∧ s.hdma.dst.toNat < 0xA000
  hdmaByte : s.hdma.byte < 16
  timaReload : s.timer.reload ≤ timaReloadDelayT

end Sys2Proof.Machine
end

