-- ==== Sys2Proof/Certificates/Slice0/Obligations.lean ====
section
/-! DEFINITION. The statements for the provers. Each docstring names the rules of spec/ it rests on. -/

open Sys2Proof Sys2Proof.Machine Sys2Proof.Config

/-! ## Encoding -/

/-- Byte sequences written out from the encoding tables (30_encoding.md R171 to R177) decode to the instruction the tables
give them. -/
def Obligations.SpecWordsDecode : Prop :=
  decode [0x00#8] = .ok (.nop, []) ∧
  decode [0x21#8, 0x34#8, 0x12#8] = .ok (.ld_HL_nn 0x1234#16, []) ∧
  decode [0x08#8, 0x00#8, 0xC1#8] = .ok (.ld_mnn_SP 0xC100#16, []) ∧
  decode [0x10#8, 0x00#8] = .ok (.stop 0x00#8, []) ∧
  decode [0x20#8, 0xFC#8] = .ok (.jr_NZ_e 0xFC#8, []) ∧
  decode [0x36#8, 0xFF#8] = .ok (.ld_mHL_n 0xFF#8, []) ∧
  decode [0x41#8] = .ok (.ld_B_C, []) ∧
  decode [0x76#8] = .ok (.halt, []) ∧
  decode [0x9E#8] = .ok (.sbc_A_mHL, []) ∧
  decode [0xC6#8, 0x01#8] = .ok (.add_A_n 0x01#8, []) ∧
  decode [0xCD#8, 0x00#8, 0x02#8] = .ok (.call_nn 0x0200#16, []) ∧
  decode [0xDD#8] = .ok (.illegal_DD, []) ∧
  decode [0xE8#8, 0xFE#8] = .ok (.add_SP_e 0xFE#8, []) ∧
  decode [0xEF#8] = .ok (.rst_28, []) ∧
  decode [0xF1#8] = .ok (.pop_AF, []) ∧
  decode [0xCB#8, 0x37#8] = .ok (.swap_A, []) ∧
  decode [0xCB#8, 0x7E#8] = .ok (.bit_7_mHL, []) ∧
  decode [0xCB#8, 0x86#8] = .ok (.res_0_mHL, []) ∧
  decode [0xCB#8, 0xFF#8] = .ok (.set_7_A, [])

/-- Decode and encode agree: the bytes of every whole instruction, with every operand at every value, decode to it,
whatever bytes follow (R160 to R179). -/
def Obligations.DecodeOfEncodeIsIdentity : Prop :=
  ∀ (i : Instr) (rest : List Byte), i.wellFormed = true → decode (encode i ++ rest) = .ok (i, rest)

/-- The other direction: what the decoder reads from bytes, encoded, is the bytes it consumed. -/
def Obligations.EncodeOfDecodeIsIdentity : Prop :=
  ∀ (bytes rest : List Byte) (i : Instr), decode bytes = .ok (i, rest) → encode i ++ rest = bytes

/-- R179: the length of an instruction from its opcode alone. -/
def Obligations.LengthFromOpcodeAlone : Prop :=
  ∀ op n1 n2 : Byte, (encode (decodeInstr op n1 n2)).length =
    if op.toNat ∈ [0x01, 0x08, 0x11, 0x21, 0x31, 0xC2, 0xC3, 0xC4, 0xCA, 0xCC, 0xCD, 0xD2, 0xD4, 0xDA, 0xDC, 0xEA, 0xFA]
    then 3
    else if op.toNat ∈ [0x06, 0x0E, 0x16, 0x1E, 0x26, 0x2E, 0x36, 0x3E, 0x10, 0x18, 0x20, 0x28, 0x30, 0x38, 0xC6, 0xCE,
      0xD6, 0xDE, 0xE6, 0xEE, 0xF6, 0xFE, 0xE0, 0xF0, 0xE8, 0xF8, 0xCB]
    then 2
    else 1

/-- R177, R346, R402: exactly eleven opcodes are undefined; each sets `illegal` and changes nothing else, also as a step, in
which its one fetch has moved `pc` past it and one M-cycle has passed, whatever `ime` and the pending flag of `EI` hold (log
entry 20); a machine with `illegal` set never changes again. -/
def Obligations.UndefinedOpcodesFreeze : Prop :=
  (∀ op n1 n2 : Byte, (decodeInstr op n1 n2).isIllegal = true ↔
    op.toNat ∈ [0xD3, 0xDB, 0xDD, 0xE3, 0xE4, 0xEB, 0xEC, 0xED, 0xF4, 0xFC, 0xFD]) ∧
  (∀ (i : Instr) (s : State), i.isIllegal = true →
    exec i s = .next { s with cpu := { s.cpu with illegal := true } }) ∧
  (∀ s : State, s.RunsInstr → s.nextInstr.isIllegal = true →
    step s = .next { advanceM s with cpu := { s.cpu with pc := s.cpu.pc + 1#16, illegal := true } }) ∧
  (∀ s : State, s.cpu.illegal = true → step s = .next s)

/-- R176, R345: the prefix runs the instruction its second byte selects, after one more fetch; all 256 values are
defined. -/
def Obligations.PrefixRunsSelectedInstruction : Prop :=
  (∀ s : State, ∃ t, exec .prefixCB s = .next t ∧
    exec (decodePrefixed (busRead s s.cpu.pc)) ((advanceM s).setPc (s.cpu.pc + 1#16)) = .next t) ∧
  (∀ op2 n : Byte, decodeInstr 0xCB#8 op2 n = decodePrefixed op2 ∧ (decodePrefixed op2).isIllegal = false)

/-! ## The step -/

/-- A step runs the decoded instruction (R400, R401): in a state whose next step is an instruction, when the bytes at `pc`,
each read at its own M-cycle, decode to `i`, the step is `exec i` after the fetch, then the delayed enable of `EI` unless `i`
is an undefined opcode (R346). That all bytes are fetched before the meaning runs is DEDUCED (log entry 5), and so is that an
undefined opcode does not bring the delayed enable (log entry 20: R346 before the order of R400). -/
def Obligations.StepRunsDecodedInstruction : Prop :=
  ∀ (s : State) (i : Instr) (rest : List Byte), s.RunsInstr →
    decode [s.fetchByte 0, s.fetchByte 1, s.fetchByte 2] = .ok (i, rest) →
    i = s.nextInstr ∧
    step s =
      match exec i (s.afterFetch (encode i).length) with
      | .next t => .next (if s.cpu.imePending = true ∧ t.cpu.imePending = true ∧ i.isIllegal = false
                          then { t with cpu := { t.cpu with ime := true, imePending := false } } else t)
      | .fault r => .fault r
      | .refused r => .refused r

/-- R403: no event but `illegal` stops CORE: every step answers a next state, and so does every whole instruction. -/
def Obligations.StepAlwaysAnswersNext : Prop :=
  (∀ s : State, ∃ t, step s = .next t) ∧
  (∀ (i : Instr) (s : State), ∃ t, exec i s = .next t)

/-- R410: what taking an interrupt does. `u` is the machine after two idle M-cycles and the two pushes; the source is
chosen from it. -/
def Obligations.InterruptDispatch : Prop :=
  ∀ s : State, s.cpu.illegal = false → hdmaHolds s = false → s.cpu.stop = false → s.cpu.ime = true →
    s.irq.pending ≠ 0#5 →
    ∃ t u : State, step s = .next t ∧
      u = memWrite (memWrite (passM 2 s) (s.cpu.sp - 1#16) (hiByte s.cpu.pc)) (s.cpu.sp - 2#16) (loByte s.cpu.pc) ∧
      t.cpu = { s.cpu with sp := s.cpu.sp - 2#16, pc := t.cpu.pc, ime := false, imePending := false, halt := false } ∧
      t = { u with cpu := t.cpu, irq := { u.irq with pend := t.irq.pend } } ∧
      (u.irq.pending = 0#5 → t.cpu.pc = 0x0000#16 ∧ t.irq.pend = u.irq.pend) ∧
      (∀ i : Nat, i < 5 → u.irq.pending.getLsbD i = true → (∀ j, j < i → u.irq.pending.getLsbD j = false) →
        t.cpu.pc = BitVec.ofNat 16 (0x40 + 8 * i) ∧
        ∀ j : Nat, j < 5 → t.irq.pend.getLsbD j = (u.irq.pend.getLsbD j && j != i))

/-- R410, R412, R330: with the stack in HRAM, `RETI` after a dispatch returns to the interrupted `pc` with `sp` restored
and interrupts enabled, however much time the handler took. -/
def Obligations.DispatchThenRetiReturns : Prop :=
  ∀ (s t : State) (n : Nat), s.Canonical → s.cpu.illegal = false → hdmaHolds s = false → s.cpu.stop = false →
    s.cpu.ime = true → s.irq.pending ≠ 0#5 →
    0xFF82 ≤ s.cpu.sp.toNat → s.cpu.sp.toNat ≤ 0xFFFF →
    step s = .next t →
    ∃ r, exec .reti (passM n t) = .next r ∧ r.cpu.pc = s.cpu.pc ∧ r.cpu.sp = s.cpu.sp ∧ r.cpu.ime = true

/-- R413, R415: a halted CPU passes idle M-cycles until an enabled source is pending, whatever `ime`; a stopped one until a
selected key is held, whatever is pending; the step that wakes goes on as if neither flag had been set. -/
def Obligations.HaltAndStopWake : Prop :=
  (∀ s : State, s.cpu.illegal = false → hdmaHolds s = false → s.cpu.halt = true → s.cpu.stop = false →
    (s.irq.pending = 0#5 → step s = .next (advanceM s)) ∧
    (s.irq.pending ≠ 0#5 → step s = step { s with cpu := { s.cpu with halt := false } })) ∧
  (∀ s : State, s.cpu.illegal = false → hdmaHolds s = false → s.cpu.stop = true → s.cpu.halt = false →
    (s.joy.lines = 0xF#4 → step s = .next (advanceM s)) ∧
    (s.joy.lines ≠ 0xF#4 → step s = step { s with cpu := { s.cpu with stop := false } }))

/-- R401, R346: the delayed enable. An instruction that starts with the pending flag set and is not `DI` ends with `ime` set
and the flag clear; only `EI` sets the flag; without it only `DI` and `RETI` change `ime`. A step that is not an instruction
enables nothing, and an undefined opcode changes neither flag (R346; that R346 goes before the order of R400 is DEDUCED, log
entry 20). -/
def Obligations.DelayedInterruptEnable : Prop :=
  (∀ s t : State, s.RunsInstr → step s = .next t →
    (s.nextInstr = .di → t.cpu.ime = false ∧ t.cpu.imePending = false) ∧
    (s.nextInstr.isIllegal = true → t.cpu.ime = s.cpu.ime ∧ t.cpu.imePending = s.cpu.imePending) ∧
    (s.nextInstr ≠ .di → s.nextInstr.isIllegal = false → s.cpu.imePending = true →
      t.cpu.ime = true ∧ t.cpu.imePending = false) ∧
    (s.nextInstr ≠ .di → s.cpu.imePending = false →
      (t.cpu.imePending = true ↔ s.nextInstr = .ei) ∧
      (s.nextInstr ≠ .reti → t.cpu.ime = s.cpu.ime) ∧ (s.nextInstr = .reti → t.cpu.ime = true))) ∧
  (∀ s t : State, step s = .next t →
    (s.cpu.illegal = true ∨ hdmaHolds s = true → t.cpu = s.cpu) ∧
    (s.cpu.stop = true → s.joy.lines = 0xF#4 → t.cpu.ime = s.cpu.ime ∧ t.cpu.imePending = s.cpu.imePending))

/-! ## 8-bit loads -/

/-- R201, R202: register to register and immediate. Nothing but the destination register changes. -/
def Obligations.LoadRegisterForms : Prop :=
  (∀ (d r : R8) (s : State), exec (.ldRR d r) s = .next { s with cpu := s.cpu.set8 d (s.cpu.get8 r) }) ∧
  (∀ (r : R8) (n : Byte) (s : State), exec (.ldRN r n) s = .next { s with cpu := s.cpu.set8 r n }) ∧
  (∀ (c : Cpu) (r q : R8) (v : Byte), (c.set8 r v).get8 q = if q = r then v else c.get8 q) ∧
  (∀ (c : Cpu) (r : R8) (v : Byte), (c.set8 r v).f = c.f ∧ (c.set8 r v).sp = c.sp ∧ (c.set8 r v).pc = c.pc ∧
    (c.set8 r v).ime = c.ime ∧ (c.set8 r v).imePending = c.imePending ∧ (c.set8 r v).halt = c.halt ∧
    (c.set8 r v).stop = c.stop ∧ (c.set8 r v).illegal = c.illegal)

/-- R203, R206, R207, R210, R212, R214, R216, R217: loads from memory. The byte is read before the M-cycle passes; only
the destination and, for the post-increment forms, `HL` change beside the passing of time. -/
def Obligations.LoadFromMemoryForms : Prop :=
  ∀ s : State,
    let load (a : Word) : State := (advanceM s).setA (busRead s a)
    (∀ r : R8, exec (.ldRM r) s = .next { advanceM s with cpu := s.cpu.set8 r (busRead s s.cpu.hl) }) ∧
    exec .ld_A_mBC s = .next (load (pair s.cpu.b s.cpu.c)) ∧
    exec .ld_A_mDE s = .next (load (pair s.cpu.d s.cpu.e)) ∧
    (∀ nn : Word, exec (.ld_A_mnn nn) s = .next (load nn)) ∧
    exec .ldh_A_mC s = .next (load (0xFF00#16 + s.cpu.c.setWidth 16)) ∧
    (∀ n : Byte, exec (.ldh_A_mn n) s = .next (load (0xFF00#16 + n.setWidth 16))) ∧
    exec .ld_A_mHLinc s = .next ((load s.cpu.hl).setHl (s.cpu.hl + 1#16)) ∧
    exec .ld_A_mHLdec s = .next ((load s.cpu.hl).setHl (s.cpu.hl - 1#16))

/-- R204, R205, R208, R209, R211, R213, R215, R218, R219: stores. The write acts before the M-cycle passes; no register
changes but `HL` in the post-increment forms. -/
def Obligations.StoreForms : Prop :=
  ∀ s : State,
    let store (a : Word) (v : Byte) : State := advanceM (busWrite s a v)
    (∀ r : R8, exec (.ldMR r) s = .next (store s.cpu.hl (s.cpu.get8 r))) ∧
    (∀ n : Byte, exec (.ld_mHL_n n) s = .next (store s.cpu.hl n)) ∧
    exec .ld_mBC_A s = .next (store (pair s.cpu.b s.cpu.c) s.cpu.a) ∧
    exec .ld_mDE_A s = .next (store (pair s.cpu.d s.cpu.e) s.cpu.a) ∧
    (∀ nn : Word, exec (.ld_mnn_A nn) s = .next (store nn s.cpu.a)) ∧
    exec .ldh_mC_A s = .next (store (0xFF00#16 + s.cpu.c.setWidth 16) s.cpu.a) ∧
    (∀ n : Byte, exec (.ldh_mn_A n) s = .next (store (0xFF00#16 + n.setWidth 16) s.cpu.a)) ∧
    exec .ld_mHLinc_A s = .next ((store s.cpu.hl s.cpu.a).setHl (s.cpu.hl + 1#16)) ∧
    exec .ld_mHLdec_A s = .next ((store s.cpu.hl s.cpu.a).setHl (s.cpu.hl - 1#16))

/-! ## 16-bit loads and the stack -/

/-- R231 to R234, R284: the 16-bit loads. The flags of `LD HL,SP+e` come from the unsigned addition of the low byte. -/
def Obligations.Load16Forms : Prop :=
  ∀ s : State,
    (∀ (rr : R16) (nn : Word), ∃ t, exec (.ldRRnn rr nn) s = .next t ∧ t = { s with cpu := s.cpu.set16 rr nn } ∧
      t.cpu.get16 rr = nn ∧ ∀ qq, qq ≠ rr → t.cpu.get16 qq = s.cpu.get16 qq) ∧
    exec .ld_SP_HL s = .next ((advanceM s).setSp s.cpu.hl) ∧
    (∀ nn : Word, exec (.ld_mnn_SP nn) s =
      .next (memWrite (memWrite s nn (loByte s.cpu.sp)) (nn + 1#16) (hiByte s.cpu.sp))) ∧
    (∀ e : Byte, exec (.ld_HL_SPe e) s =
      .next (((advanceM s).setHl (s.cpu.sp + e.signExtend 16)).setF
        ⟨false, false, decide (s.cpu.sp.toNat % 16 + e.toNat % 16 > 15),
          decide (s.cpu.sp.toNat % 256 + e.toNat > 255)⟩))

/-- R235 to R240: PUSH is an idle M-cycle, the high byte at `sp - 1`, the low byte at `sp - 2`; POP reads the low byte at
`sp`, then the high byte at `sp + 1`. For AF the low four bits of the byte of F are pushed as 0 and discarded when
popped. -/
def Obligations.PushAndPop : Prop :=
  (∀ (rr : R16Stk) (s : State), exec (.pushRR rr) s =
    .next ((memWrite (memWrite (advanceM s) (s.cpu.sp - 1#16) (hiByte (s.cpu.getStk rr)))
      (s.cpu.sp - 2#16) (loByte (s.cpu.getStk rr))).setSp (s.cpu.sp - 2#16))) ∧
  (∀ (rr : R16Stk) (s : State), exec (.popRR rr) s =
    .next (((passM 2 s).setSp (s.cpu.sp + 2#16)).setStk rr
      (pair (busRead (advanceM s) (s.cpu.sp + 1#16)) (busRead s s.cpu.sp)))) ∧
  (∀ (rr : R16Stk) (c : Cpu) (v : Word),
    (c.setStk rr v).getStk rr = if rr = .AF then v &&& 0xFFF0#16 else v) ∧
  (∀ c : Cpu, c.getStk .AF &&& 0x000F#16 = 0x0000#16) ∧
  (∀ (c : Cpu) (v : Word), let f := (c.setStk .AF v).f
    f.z = v.getLsbD 7 ∧ f.n = v.getLsbD 6 ∧ f.h = v.getLsbD 5 ∧ f.c = v.getLsbD 4)

/-! ## 8-bit arithmetic and logic -/

/-- R251 to R254: ADD and ADC, in the three source forms; `v` is the source byte, `u` the state after it is read. -/
def Obligations.AddAndAddWithCarry : Prop :=
  ∀ (s u : State) (v : Byte),
    let sum (c : Bool) : Nat := s.cpu.a.toNat + v.toNat + b2n c
    let next (c : Bool) : Outcome := .next (u.setAF (BitVec.ofNat 8 (sum c)) (decide (sum c % 256 = 0)) false
      (decide (s.cpu.a.toNat % 16 + v.toNat % 16 + b2n c ≥ 16)) (decide (sum c ≥ 256)))
    (∀ r : R8, u = s → v = s.cpu.get8 r →
      exec (.aluR .add r) s = next false ∧ exec (.aluR .adc r) s = next s.cpu.f.c) ∧
    (u = advanceM s → v = busRead s s.cpu.hl →
      exec (.aluM .add) s = next false ∧ exec (.aluM .adc) s = next s.cpu.f.c) ∧
    (u = s → exec (.aluN .add v) s = next false ∧ exec (.aluN .adc v) s = next s.cpu.f.c)

/-- R251, R255, R256, R260: SUB, SBC and CP, in the three source forms. CP writes no register. -/
def Obligations.SubtractAndCompare : Prop :=
  ∀ (s u : State) (v : Byte),
    let borrow (c : Bool) : Bool := decide (s.cpu.a.toNat < v.toNat + b2n c)
    let half (c : Bool) : Bool := decide (s.cpu.a.toNat % 16 < v.toNat % 16 + b2n c)
    let dif (c : Bool) : Byte := s.cpu.a - v - (if c then 1#8 else 0#8)
    let next (c : Bool) : Outcome := .next (u.setAF (dif c) (decide (dif c = 0#8)) true (half c) (borrow c))
    let cmp : Outcome := .next (u.setAF s.cpu.a (decide (s.cpu.a = v)) true (half false) (borrow false))
    (∀ r : R8, u = s → v = s.cpu.get8 r →
      exec (.aluR .sub r) s = next false ∧ exec (.aluR .sbc r) s = next s.cpu.f.c ∧ exec (.aluR .cp r) s = cmp) ∧
    (u = advanceM s → v = busRead s s.cpu.hl →
      exec (.aluM .sub) s = next false ∧ exec (.aluM .sbc) s = next s.cpu.f.c ∧ exec (.aluM .cp) s = cmp) ∧
    (u = s →
      exec (.aluN .sub v) s = next false ∧ exec (.aluN .sbc v) s = next s.cpu.f.c ∧ exec (.aluN .cp v) s = cmp)

/-- R257 to R259: AND, XOR and OR, in the three source forms. -/
def Obligations.LogicalOperations : Prop :=
  ∀ (s u : State) (v : Byte),
    let next (r : Byte) (h : Bool) : Outcome := .next (u.setAF r (decide (r = 0#8)) false h false)
    (∀ r : R8, u = s → v = s.cpu.get8 r →
      exec (.aluR .and r) s = next (s.cpu.a &&& v) true ∧ exec (.aluR .xor r) s = next (s.cpu.a ^^^ v) false ∧
      exec (.aluR .or r) s = next (s.cpu.a ||| v) false) ∧
    (u = advanceM s → v = busRead s s.cpu.hl →
      exec (.aluM .and) s = next (s.cpu.a &&& v) true ∧ exec (.aluM .xor) s = next (s.cpu.a ^^^ v) false ∧
      exec (.aluM .or) s = next (s.cpu.a ||| v) false) ∧
    (u = s →
      exec (.aluN .and v) s = next (s.cpu.a &&& v) true ∧ exec (.aluN .xor v) s = next (s.cpu.a ^^^ v) false ∧
      exec (.aluN .or v) s = next (s.cpu.a ||| v) false)

/-- R261 to R264: INC and DEC of a register and of the byte at `HL`. `Cf` does not change; the half-carry is 1 exactly when
the old low nibble was 0xF, respectively 0. The memory form reads, passes an M-cycle, writes, passes an M-cycle. -/
def Obligations.IncrementAndDecrement : Prop :=
  ∀ s : State,
    let incF (v : Byte) : Flags := ⟨decide (v = 0xFF#8), false, decide (v.toNat % 16 = 15), s.cpu.f.c⟩
    let decF (v : Byte) : Flags := ⟨decide (v = 0x01#8), true, decide (v.toNat % 16 = 0), s.cpu.f.c⟩
    let m := busRead s s.cpu.hl
    (∀ r : R8, exec (.incR r) s = .next ((s.set8 r (s.cpu.get8 r + 1#8)).setF (incF (s.cpu.get8 r)))) ∧
    (∀ r : R8, exec (.decR r) s = .next ((s.set8 r (s.cpu.get8 r - 1#8)).setF (decF (s.cpu.get8 r)))) ∧
    exec .inc_mHL s = .next ((memWrite (advanceM s) s.cpu.hl (m + 1#8)).setF (incF m)) ∧
    exec .dec_mHL s = .next ((memWrite (advanceM s) s.cpu.hl (m - 1#8)).setF (decF m))

/-- R265 to R268: DAA, CPL, SCF and CCF. -/
def Obligations.AccumulatorAdjustments : Prop :=
  ∀ s : State,
    let a := s.cpu.a
    let f := s.cpu.f
    let lowFix : Bool := f.h || (!f.n && decide (a.toNat % 16 > 9))
    let highFix : Bool := f.c || (!f.n && decide (a.toNat > 0x99))
    let adj : Byte := (if lowFix then 0x06#8 else 0#8) + (if highFix then 0x60#8 else 0#8)
    let res : Byte := if f.n then a - adj else a + adj
    exec .daa s = .next (s.setAF res (decide (res = 0#8)) f.n false highFix) ∧
    exec .cpl s = .next (s.setAF (a ^^^ 0xFF#8) f.z true true f.c) ∧
    exec .scf s = .next (s.setAF a f.z false false true) ∧
    exec .ccf s = .next (s.setAF a f.z false false (!f.c))

/-- R265: on packed BCD, ADD then DAA is decimal addition, SUB then DAA decimal subtraction, with the decimal carry in
`Cf`. -/
def Obligations.DecimalAdjustIsBcdArithmetic : Prop :=
  let bcd (k : Nat) : Byte := BitVec.ofNat 8 (k / 10 % 10 * 16 + k % 10)
  ∀ (s : State) (x y : Nat), x < 100 → y < 100 → s.cpu.a = bcd x →
    (∃ t u, exec (.aluN .add (bcd y)) s = .next t ∧ exec .daa t = .next u ∧
      u.cpu.a = bcd ((x + y) % 100) ∧ u.cpu.f.c = decide (x + y ≥ 100)) ∧
    (∃ t u, exec (.aluN .sub (bcd y)) s = .next t ∧ exec .daa t = .next u ∧
      u.cpu.a = bcd ((x + 100 - y) % 100) ∧ u.cpu.f.c = decide (x < y))

/-! ## 16-bit arithmetic -/

/-- R280 to R284: the 16-bit arithmetic, with its idle M-cycles. -/
def Obligations.Arithmetic16 : Prop :=
  ∀ s : State,
    (∀ rr : R16, exec (.addHLRR rr) s = .next (((advanceM s).setHl (s.cpu.hl + s.cpu.get16 rr)).setF
      ⟨s.cpu.f.z, false, decide (s.cpu.hl.toNat % 4096 + (s.cpu.get16 rr).toNat % 4096 > 4095),
        decide (s.cpu.hl.toNat + (s.cpu.get16 rr).toNat > 65535)⟩)) ∧
    (∀ rr : R16, exec (.incRR rr) s = .next ((advanceM s).set16 rr (s.cpu.get16 rr + 1#16))) ∧
    (∀ rr : R16, exec (.decRR rr) s = .next ((advanceM s).set16 rr (s.cpu.get16 rr - 1#16))) ∧
    (∀ e : Byte, exec (.add_SP_e e) s = .next (((passM 2 s).setSp (s.cpu.sp + e.signExtend 16)).setF
      ⟨false, false, decide (s.cpu.sp.toNat % 16 + e.toNat % 16 > 15),
        decide (s.cpu.sp.toNat % 256 + e.toNat > 255)⟩))

/-! ## Rotates, shifts, bits -/

/-- R290 to R302, R306: the prefixed rotates and shifts of a register and of the byte at `HL`; the accumulator rotates have
the same results and always clear `Z`. -/
def Obligations.RotatesAndShifts : Prop :=
  ∀ (s : State) (op : RotOp),
    let c : Byte := if s.cpu.f.c then 1#8 else 0#8
    let res (v : Byte) : Byte := match op with
      | .rlc => v.rotateLeft 1
      | .rrc => v.rotateRight 1
      | .rl => (v <<< 1) ||| c
      | .rr => (v >>> 1) ||| (c <<< 7)
      | .sla => v <<< 1
      | .sra => v.sshiftRight 1
      | .swap => v.rotateLeft 4
      | .srl => v >>> 1
    let out (v : Byte) : Bool := match op with
      | .rlc | .rl | .sla => v.getLsbD 7
      | .rrc | .rr | .sra | .srl => v.getLsbD 0
      | .swap => false
    let fl (v : Byte) : Flags := ⟨decide (res v = 0#8), false, false, out v⟩
    let m := busRead s s.cpu.hl
    (∀ r : R8, exec (.rotR op r) s = .next ((s.set8 r (res (s.cpu.get8 r))).setF (fl (s.cpu.get8 r)))) ∧
    exec (.rotM op) s = .next ((memWrite (advanceM s) s.cpu.hl (res m)).setF (fl m)) ∧
    (op = .rlc → exec .rlca s = .next (s.setAF (res s.cpu.a) false false false (out s.cpu.a))) ∧
    (op = .rrc → exec .rrca s = .next (s.setAF (res s.cpu.a) false false false (out s.cpu.a))) ∧
    (op = .rl → exec .rla s = .next (s.setAF (res s.cpu.a) false false false (out s.cpu.a))) ∧
    (op = .rr → exec .rra s = .next (s.setAF (res s.cpu.a) false false false (out s.cpu.a)))

/-- R303 to R306: BIT sets `Z` from the complement of the bit and writes no operand; RES and SET change exactly one bit and
no flag. -/
def Obligations.BitTestResetSet : Prop :=
  ∀ (s : State) (b : Oct),
    let fl (v : Byte) : Flags := ⟨!v.getLsbD b.toNat, false, true, s.cpu.f.c⟩
    let one (v w : Byte) (x : Bool) : Prop :=
      ∀ k : Nat, k < 8 → w.getLsbD k = if k = b.toNat then x else v.getLsbD k
    let m := busRead s s.cpu.hl
    (∀ r : R8, exec (.bitR b r) s = .next (s.setF (fl (s.cpu.get8 r)))) ∧
    exec (.bitM b) s = .next ((advanceM s).setF (fl m)) ∧
    (∀ r : R8, ∃ w, one (s.cpu.get8 r) w false ∧ exec (.resR b r) s = .next (s.set8 r w)) ∧
    (∀ r : R8, ∃ w, one (s.cpu.get8 r) w true ∧ exec (.setR b r) s = .next (s.set8 r w)) ∧
    (∃ w, one m w false ∧ exec (.resM b) s = .next (memWrite (advanceM s) s.cpu.hl w)) ∧
    (∃ w, one m w true ∧ exec (.setM b) s = .next (memWrite (advanceM s) s.cpu.hl w))

/-! ## Control transfer -/

/-- R320 to R325: the jumps. A conditional one that is not taken changes nothing after its fetches. R326, R327, R331:
the calls push the address of the next instruction, high byte first, after one idle M-cycle. -/
def Obligations.JumpsAndCalls : Prop :=
  ∀ s : State,
    let holds (cc : Cond) : Bool := match cc with
      | .NZ => !s.cpu.f.z | .Z => s.cpu.f.z | .NC => !s.cpu.f.c | .C => s.cpu.f.c
    let rel (e : Byte) : State := (advanceM s).setPc (s.cpu.pc + e.signExtend 16)
    let call (nn : Word) : State :=
      ((memWrite (memWrite (advanceM s) (s.cpu.sp - 1#16) (hiByte s.cpu.pc)) (s.cpu.sp - 2#16)
        (loByte s.cpu.pc)).setSp (s.cpu.sp - 2#16)).setPc nn
    (∀ nn, exec (.jp_nn nn) s = .next ((advanceM s).setPc nn)) ∧
    (∀ cc nn, exec (.jpCC cc nn) s = .next (if holds cc then (advanceM s).setPc nn else s)) ∧
    exec .jp_HL s = .next (s.setPc s.cpu.hl) ∧
    (∀ e, exec (.jr_e e) s = .next (rel e)) ∧
    (∀ cc e, exec (.jrCC cc e) s = .next (if holds cc then rel e else s)) ∧
    (∀ nn, exec (.call_nn nn) s = .next (call nn)) ∧
    (∀ cc nn, exec (.callCC cc nn) s = .next (if holds cc then call nn else s)) ∧
    (∀ y : Oct, exec (.rst y) s = .next (call (BitVec.ofNat 16 (8 * y.toNat))))

/-- R328 to R330: the returns. `RET cc` passes one M-cycle before it looks at the condition; `RETI` also sets `ime` at
once. -/
def Obligations.Returns : Prop :=
  let ret (s : State) : State := ((passM 3 s).setSp (s.cpu.sp + 2#16)).setPc
    (pair (busRead (advanceM s) (s.cpu.sp + 1#16)) (busRead s s.cpu.sp))
  ∀ s : State,
    let holds (cc : Cond) : Bool := match cc with
      | .NZ => !s.cpu.f.z | .Z => s.cpu.f.z | .NC => !s.cpu.f.c | .C => s.cpu.f.c
    exec .ret s = .next (ret s) ∧
    (∀ cc, exec (.retCC cc) s = .next (if holds cc then ret (advanceM s) else advanceM s)) ∧
    exec .reti s = .next ((ret s).setIme true)

/-- R326, R328, R332: a call with its two stack bytes in work RAM below the echo or in HRAM, and no OAM DMA running, is
undone by `RET`: `pc` and `sp` are back, however much time passes between. -/
def Obligations.ReturnUndoesCall : Prop :=
  ∀ (s t : State) (n : Nat), s.Canonical → s.dma.active = false →
    ((0xC002 ≤ s.cpu.sp.toNat ∧ s.cpu.sp.toNat ≤ 0xE000) ∨ 0xFF82 ≤ s.cpu.sp.toNat) →
    ((∃ nn, exec (.call_nn nn) s = .next t) ∨
     (∃ cc nn, s.cpu.f.cond cc = true ∧ exec (.callCC cc nn) s = .next t) ∨
     (∃ y, exec (.rst y) s = .next t)) →
    ∃ r, exec .ret (passM n t) = .next r ∧ r.cpu = s.cpu

/-! ## System control -/

/-- R340 to R344: NOP, HALT, STOP, DI and EI. STOP resets the divider in both branches and switches the speed only in
extended mode with a switch prepared. -/
def Obligations.SystemControl : Prop :=
  ∀ s : State,
    exec .nop s = .next s ∧
    exec .halt s = .next { s with cpu := { s.cpu with halt := true } } ∧
    (∀ n : Byte, exec (.stop n) s = .next
      (if s.cgb = true ∧ s.speed.prepare = true
       then { s with timer := s.timer.divReset, speed := ⟨!s.speed.doubleSpeed, false⟩ }
       else { s with timer := s.timer.divReset, cpu := { s.cpu with stop := true } })) ∧
    exec .di s = .next { s with cpu := { s.cpu with ime := false, imePending := false } } ∧
    exec .ei s = .next { s with cpu := { s.cpu with imePending := true } }

/-! ## Frames and whole-machine rules -/

/-- An instruction that stores nothing and is not STOP changes nothing but CPU registers and flags, beside the passing of
exactly its own M-cycles. -/
def Obligations.NonStoringInstructionsOnlyPassTime : Prop :=
  ∀ (i : Instr) (s t : State), i.wellFormed = true → i.stores s = [] → (∀ pad, i ≠ .stop pad) →
    exec i s = .next t → t = { passM (i.cyclesAfterFetch s.cpu.f) s with cpu := t.cpu }

/-- The memory frame of every instruction. `Instr.stores` computes the stores an instruction makes: the state each is made
in, its address, its byte. Every cell outside OAM that no store reaches reads as before; so does every OAM cell when no
OAM DMA runs and no store starts one (0xFF46); a cell that a store reaches last holds the stored byte. -/
def Obligations.MemoryFrame : Prop :=
  ∀ (i : Instr) (s t : State), i.wellFormed = true → s.Canonical → exec i s = .next t →
    (∀ c : Cell, (∀ k, c ≠ .oam k) → (∀ x ∈ i.stores s, x.at_.storeTarget x.addr ≠ some c) → t.cell c = s.cell c) ∧
    (∀ k : Nat, s.dma.active = false →
      (∀ x ∈ i.stores s, x.at_.storeTarget x.addr ≠ some (.oam k) ∧ x.addr ≠ 0xFF46#16) →
      t.cell (.oam k) = s.cell (.oam k)) ∧
    (∀ (pre post : List BusStore) (x : BusStore) (c : Cell), i.stores s = pre ++ x :: post →
      x.at_.storeTarget x.addr = some c →
      (∀ y ∈ post, y.at_.storeTarget y.addr ≠ some c ∧ y.addr ≠ 0xFF46#16) → t.cell c = c.stored x.val)

/-- R250: the flag table. A flag whose entry is 0, 1 or `-` is 0, 1 or unchanged after the instruction, and an instruction not
in the table writes no flag; what a `*` entry is set to is said by the statements of results. -/
def Obligations.FlagTable : Prop :=
  ∀ (op n1 n2 : Byte) (s t : State), exec (decodeInstr op n1 n2) s = .next t →
    (flagRow op.toNat n1.toNat).z.holds s.cpu.f.z t.cpu.f.z ∧
    (flagRow op.toNat n1.toNat).n.holds s.cpu.f.n t.cpu.f.n ∧
    (flagRow op.toNat n1.toNat).h.holds s.cpu.f.h t.cpu.f.h ∧
    (flagRow op.toNat n1.toNat).c.holds s.cpu.f.c t.cpu.f.c

/-- R22, R26: which instructions write `sp` and the CPU's control flags. -/
def Obligations.ControlStateWriters : Prop :=
  ∀ (op n1 n2 : Byte) (s t : State),
    let i := decodeInstr op n1 n2
    exec i s = .next t →
    (op.toNat ∉ spWriters → t.cpu.sp = s.cpu.sp) ∧
    (i ≠ .di → i ≠ .reti → t.cpu.ime = s.cpu.ime) ∧
    (i ≠ .di → i ≠ .ei → t.cpu.imePending = s.cpu.imePending) ∧
    (i ≠ .halt → t.cpu.halt = s.cpu.halt) ∧
    ((∀ pad, i ≠ .stop pad) → t.cpu.stop = s.cpu.stop) ∧
    (i.isIllegal = false → t.cpu.illegal = s.cpu.illegal)

/-- R720, R400, R410, R494: the duration of every step, read off the `keys` port, of which one scheduled value is used in each
T-cycle (the model's form of the port, log entry 4). `halt` and `stop` are what is left of the flags after the wake rules. A
frozen step takes no time; a held one 1 M-cycle; an instruction, also in the step that wakes the CPU, its M-cycles of the
table, taken and not taken forms apart (all bytes fetched first, log entry 5); a dispatch 4; a waiting step 1. These are all
the steps there are. -/
def Obligations.DurationOfEveryStep : Prop :=
  ∀ s t : State, step s = .next t →
    let halt : Bool := s.cpu.halt && s.irq.pending == 0#5
    let stop : Bool := s.cpu.stop && s.joy.lines == 0xF#4
    let w : State := { s with cpu := { s.cpu with halt := halt, stop := stop } }
    let takes (n : Nat) : Prop := t.inputs.keysIn = s.inputs.keysIn.drop (4 * n)
    (s.cpu.illegal = true → takes 0) ∧
    (s.cpu.illegal = false → hdmaHolds s = true → takes 1) ∧
    (s.cpu.illegal = false → hdmaHolds s = false →
      (stop = true ∨ halt = true → takes 1) ∧
      (stop = false → s.cpu.ime = true → s.irq.pending ≠ 0#5 → takes 4) ∧
      (stop = false → halt = false → s.cpu.ime = false ∨ s.irq.pending = 0#5 →
        takes ((encode w.nextInstr).length + w.nextInstr.cyclesAfterFetch s.cpu.f)))

/-- R113, R650, R8, R701: no step changes the cartridge image, the bank counts, the mode or the parameters. -/
def Obligations.RomAndModeNeverChange : Prop :=
  ∀ s t : State, step s = .next t →
    t.cart.rom = s.cart.rom ∧ t.cart.romBanks = s.cart.romBanks ∧ t.cart.ramBanks = s.cart.ramBanks ∧
    t.cgb = s.cgb ∧ t.params = s.params

/-! ## The bus -/

/-- R111: a CPU write reaches at most one cell of storage, the one `State.storeTarget` computes; that cell then holds the
byte (its low half, for a half-byte cell) and every other cell is as before. -/
def Obligations.BusWriteReachesOneCell : Prop :=
  ∀ (s : State) (a : Word) (v : Byte) (c : Cell), s.Canonical →
    (busWrite s a v).cell c = if s.storeTarget a = some c then c.stored v else s.cell c

/-- R115, R116, R121, R122: the echo behaves as the same access 0x2000 below; work RAM, HRAM and IE read back what was
written (work RAM while no OAM DMA runs, HRAM and IE always). -/
def Obligations.EchoAndReadBack : Prop :=
  (∀ (s : State) (a : Word) (v : Byte), 0xE000 ≤ a.toNat → a.toNat ≤ 0xFDFF →
    busRead s a = busRead s (a - 0x2000#16) ∧ busWrite s a v = busWrite s (a - 0x2000#16) v) ∧
  (∀ (s : State) (a : Word) (v : Byte), s.Canonical → 0xC000 ≤ a.toNat → a.toNat ≤ 0xDFFF → s.dma.active = false →
    busRead (busWrite s a v) a = v) ∧
  (∀ (s : State) (a : Word) (v : Byte), s.Canonical → 0xFF80 ≤ a.toNat → busRead (busWrite s a v) a = v)

/-- R114, R117, R119, R130: the blocking rules. A blocked read returns 0xFF, a blocked write changes nothing; everything at
0xFF00 and above is read as ever during OAM DMA. -/
def Obligations.BlockedAccesses : Prop :=
  ∀ (s : State) (a : Word) (v : Byte),
    let lcdMode (m : PpuMode) : Prop := s.ppu.lcdc.getLsbD 7 = true ∧ s.ppu.mode = m
    (s.dma.active = true → a.toNat < 0xFF00 → busRead s a = 0xFF#8) ∧
    (0xFF00 ≤ a.toNat → busRead s a = rawRead s a) ∧
    (0x8000 ≤ a.toNat → a.toNat ≤ 0x9FFF → lcdMode .transfer → busRead s a = 0xFF#8 ∧ busWrite s a v = s) ∧
    (0x8000 ≤ a.toNat → a.toNat ≤ 0x9FFF → ¬ lcdMode .transfer → s.dma.active = false →
      busRead s a = s.vram.read (s.vramOff (a.toNat - 0x8000)) ∧
      busWrite s a v = { s with vram := s.vram.write (s.vramOff (a.toNat - 0x8000)) v }) ∧
    (0xFE00 ≤ a.toNat → a.toNat ≤ 0xFE9F → lcdMode .transfer ∨ lcdMode .oamScan ∨ s.dma.active = true →
      busRead s a = 0xFF#8 ∧ busWrite s a v = s) ∧
    (0xFE00 ≤ a.toNat → a.toNat ≤ 0xFE9F → ¬ lcdMode .transfer → ¬ lcdMode .oamScan → s.dma.active = false →
      busRead s a = s.oam.read (a.toNat - 0xFE00) ∧
      busWrite s a v = { s with oam := s.oam.write (a.toNat - 0xFE00) v }) ∧
    (0xFEA0 ≤ a.toNat → a.toNat ≤ 0xFEFF → busRead s a = 0xFF#8 ∧ busWrite s a v = s)

/-! ## The transfer engines -/

/-- R481, R483: OAM DMA. One M-cycle leaves every storage array alone but `oam`, of which the running engine writes one
byte; from a write of the DMA register on, byte `k` is copied in M-cycle `k` and the engine runs for 160 M-cycles. -/
def Obligations.OamDmaTransfer : Prop :=
  (∀ s : State, s.Canonical →
    (advanceM s).vram = s.vram ∧ (advanceM s).wram = s.wram ∧ (advanceM s).hram = s.hram ∧
    (advanceM s).bgpal = s.bgpal ∧ (advanceM s).obpal = s.obpal ∧ (advanceM s).wave = s.wave ∧
    (advanceM s).cart = s.cart ∧ (s.dma.active = false → (advanceM s).oam = s.oam)) ∧
  (∀ (s : State) (v : Byte) (n k : Nat), s.Canonical → n ≤ 160 → k < 160 →
    let src : Nat := if 0xE0 ≤ v.toNat then (v.toNat - 0x20) * 256 else v.toNat * 256
    let t := passM n (busWrite s 0xFF46#16 v)
    t.dma.reg = v ∧ (t.dma.active = true ↔ n < 160) ∧
    t.oam.read k = if k < n then rawRead s (BitVec.ofNat 16 (src + k)) else s.oam.read k)

/-- R490, R493, R494: HDMA holds the CPU. While it does, whatever the source, a step is `HdmaStepM()`: one byte at double
speed and two at normal speed, each read through `RawRead` and written to the selected video RAM bank, then one M-cycle.
So from a block boundary, in general and in HBlank mode, at both speeds, the 8 or 16 steps of a block copy 16 bytes, touch no
other video RAM byte and no CPU register, and count the block; this second part is stated for sources that neither the
transfer nor the passing of time changes (outside video RAM, OAM and the I/O registers), the first part for all. -/
def Obligations.HdmaCopiesOneBlock : Prop :=
  (∀ s : State, s.cpu.illegal = false → hdmaHolds s = true →
    let one (u : State) : State :=
      let d := u.hdma
      let last : Bool := d.byte + 1 == 16
      { u with
        vram := u.vram.write (u.vramOff (d.dst.toNat % 0x2000)) (rawRead u d.src)
        hdma := { src := d.src + 1#16
                  dst := 0x8000#16 ||| ((d.dst + 1#16) &&& 0x1FFF#16)
                  byte := if last then 0 else d.byte + 1
                  blockReq := d.blockReq && !last
                  mode := if last ∧ d.left = 0#7 then .idle else d.mode
                  left := if last then (if d.left = 0#7 then 0x7F#7 else d.left - 1#7) else d.left } }
    step s = .next (advanceM (if s.speed.doubleSpeed = true then one s else one (one s)))) ∧
  (∀ s : State, s.Canonical → s.cpu.illegal = false → hdmaHolds s = true → s.hdma.byte = 0 →
    let still (a : Nat) : Prop :=
      ¬ (0x8000 ≤ a ∧ a < 0xA000) ∧ ¬ (0xFE00 ≤ a ∧ a < 0xFEA0) ∧ ¬ (0xFF00 ≤ a ∧ a < 0xFF80)
    (∀ k : Nat, k < 16 → still (s.hdma.src + BitVec.ofNat 16 k).toNat) →
    ∃ t, runSteps (if s.speed.doubleSpeed = true then 16 else 8) s = .next t ∧ t.cpu = s.cpu ∧
      t.hdma.src = s.hdma.src + 16#16 ∧ t.hdma.byte = 0 ∧
      (s.hdma.left = 0#7 → t.hdma.mode = .idle ∧ t.hdma.left = 0x7F#7) ∧
      (s.hdma.left ≠ 0#7 → t.hdma.mode = s.hdma.mode ∧ t.hdma.left = s.hdma.left - 1#7) ∧
      (∀ k : Nat, k < 16 →
        t.vram.read (s.vramOff ((s.hdma.dst.toNat + k) % 0x2000)) = rawRead s (s.hdma.src + BitVec.ofNat 16 k)) ∧
      (∀ off : Nat, (∀ k : Nat, k < 16 → off ≠ s.vramOff ((s.hdma.dst.toNat + k) % 0x2000)) →
        t.vram.read off = s.vram.read off))

/-! ## Timer, joypad, interrupt controller -/

/-- R451, R453, R456: an enabled timer with no overflow near counts one in every period of the selected divider bit, 1024,
16, 64 or 256 T-cycles, from any phase; a disabled one never counts. -/
def Obligations.TimerCountsOncePerPeriod : Prop :=
  (∀ t : Timer, t.tac.getLsbD 2 = true → t.reload = 0 → t.tima.toNat < 255 →
    let period : Nat := match t.tac.toNat % 4 with | 0 => 1024 | 1 => 16 | 2 => 64 | _ => 256
    (fun u : Timer => u.tick.1)^[period] t =
      { t with tima := t.tima + 1#8, div16 := t.div16 + BitVec.ofNat 16 period }) ∧
  (∀ (t : Timer) (n : Nat), t.tac.getLsbD 2 = false → t.reload = 0 →
    (fun u : Timer => u.tick.1)^[n] t = { t with div16 := t.div16 + BitVec.ofNat 16 n })

/-- R451, R452, R457, R458, R460: the timer's edges. A write to DIV clears the divider and, like a write to TAC, counts once
exactly when the watched signal falls; counting at 0xFF stores 0 and arms the latch without a request; the next T-cycle
reloads TIMA from TMA and requests interrupt 2. -/
def Obligations.TimerEdgesAndOverflow : Prop :=
  let signal (t : Timer) : Bool := t.tac.getLsbD 2 && t.div16.getLsbD
    (match t.tac.toNat % 4 with | 0 => 9 | 1 => 3 | 2 => 5 | _ => 7)
  let count (t : Timer) (falls : Bool) : Timer :=
    if falls then (if t.tima = 0xFF#8 then { t with tima := 0#8, reload := 1 } else { t with tima := t.tima + 1#8 })
    else t
  (∀ (s : State) (v : Byte), busWrite s 0xFF04#16 v =
    { s with timer := count { s.timer with div16 := 0#16 } (signal s.timer) }) ∧
  (∀ (s : State) (v : Byte), let t' : Timer := { s.timer with tac := v.extractLsb' 0 3 }
    busWrite s 0xFF07#16 v = { s with timer := count t' (signal s.timer && !signal t') }) ∧
  (∀ (k : Nat) (s : State),
    let t0 : Timer := if s.timer.reload = 1 then { s.timer with reload := 0, tima := s.timer.tma } else s.timer
    let t1 : Timer := { t0 with div16 := t0.div16 + 1#16 }
    s.timer.reload ≤ 1 →
    (tickFast k s).timer = count t1 (signal t0 && !signal t1) ∧
    (tickFast k s).irq.pend.getLsbD 2 = (s.irq.pend.getLsbD 2 || decide (s.timer.reload = 1)))

/-- R472, R473: the four joypad lines, and the interrupt on a line that goes from 1 to 0. The keys of the T-cycle are the next
value of the schedule, or the last level once it is empty: that is the model's form of the port `keys` (log entry 4, DESIGN
CHOICE), and each T-cycle uses one value. -/
def Obligations.JoypadLinesAndInterrupt : Prop :=
  ∀ (k : Nat) (s : State),
    let keys := s.inputs.keysIn.headD s.inputs.keys
    let t := tickFast k s
    let held (i : Nat) : Bool :=
      (!s.joy.p1Sel.getLsbD 0 && keys.getLsbD i) || (!s.joy.p1Sel.getLsbD 1 && keys.getLsbD (4 + i))
    (∀ i : Nat, i < 4 → t.joy.lines.getLsbD i = !held i) ∧
    t.joy.p1Sel = s.joy.p1Sel ∧
    t.inputs.keys = keys ∧ t.inputs.keysIn = s.inputs.keysIn.tail ∧
    (t.irq.pend.getLsbD 4 = true ↔
      s.irq.pend.getLsbD 4 = true ∨ ∃ i : Nat, i < 4 ∧ s.joy.lines.getLsbD i = true ∧ held i = true)

/-- R420: the STAT interrupt is requested on a rising edge of the composite line only, and the latch follows the line. -/
def Obligations.StatInterruptOnRisingEdge : Prop :=
  ∀ s : State,
    let t := tickSlow s
    let p := t.ppu
    let line : Bool := (decide (p.ly = p.lyc.toNat) && p.statEn.getLsbD 3) ||
      (decide (p.mode = .hblank) && p.statEn.getLsbD 0) ||
      (decide (p.mode = .vblank) && p.statEn.getLsbD 1) ||
      (decide (p.mode = .oamScan) && p.statEn.getLsbD 2)
    t.irq.statLine = line ∧
    t.irq.pend.getLsbD 1 = (s.irq.pend.getLsbD 1 || (!s.irq.statLine && line))

/-- R404, R405, R406: IF reads `0xE0` ORed with five stored bits and stores bits 4:0; IE is plain storage; a request sets
its bit and no other. -/
def Obligations.InterruptRegisters : Prop :=
  ∀ (s : State) (v : Byte),
    busRead s 0xFF0F#16 = 0xE0#8 ||| s.irq.pend.setWidth 8 ∧
    busWrite s 0xFF0F#16 v = { s with irq := { s.irq with pend := v.setWidth 5 } } ∧
    busRead s 0xFFFF#16 = s.irq.ie ∧
    busWrite s 0xFFFF#16 v = { s with irq := { s.irq with ie := v } } ∧
    (∀ i j : Nat, i < 5 → j < 5 → (s.irq.request i).pend.getLsbD j = (s.irq.pend.getLsbD j || decide (j = i)))

/-! ## PPU -/

/-- R511, R520, R523, R524: with the LCD on, each dot moves the position in the frame by one, modulo 70224; VBlank is
requested exactly on entering scanline 144 and `frame_done` set exactly on the wrap to scanline 0. -/
def Obligations.FramePosition : Prop :=
  ∀ s : State, s.ppu.Ok → s.ppu.lcdOn = true →
    let pos (p : Ppu) : Nat := p.ly * 456 + p.lx
    let t := tickSlow s
    t.ppu.lcdOn = true ∧ pos t.ppu = (pos s.ppu + 1) % 70224 ∧
    t.irq.pend.getLsbD 0 = (s.irq.pend.getLsbD 0 || decide (pos t.ppu = 144 * 456)) ∧
    t.ppu.frameDone = (s.ppu.frameDone || decide (pos t.ppu = 0))

/-- R522, R525: the length of mode 3. The dot before dot 80 of a visible scanline enters mode 3 with `MODE3_LEAD`, the fine
scroll and `Mode3Extra` as the dots to skip; `Mode3Extra` is the model's list of values, then its constant (log entry 3). From
the start of mode 3, with `k` dots to skip, the PPU stays in mode 3 for `k + 160` dots and is then in mode 0 (R512, R540),
if that fits in the scanline. -/
def Obligations.ModeThreeLength : Prop :=
  (∀ s : State, s.ppu.lcdOn = true → s.ppu.ly < 144 → s.ppu.lx = 79 →
    let t := tickSlow s
    t.ppu.mode = .transfer ∧ t.ppu.lx = 80 ∧ t.ppu.ly = s.ppu.ly ∧ t.ppu.px = 0 ∧ t.ppu.m3Done = false ∧
    t.ppu.m3Skip = s.params.mode3Lead + s.ppu.scx.toNat % 8 + s.inputs.mode3In.headD s.params.mode3Extra ∧
    t.inputs.mode3In = s.inputs.mode3In.tail) ∧
  (∀ (s : State) (n : Nat), s.ppu.lcdOn = true → s.ppu.mode = .transfer → s.ppu.ly < 144 → s.ppu.px = 0 →
    s.ppu.m3Done = false → 80 ≤ s.ppu.lx → s.ppu.lx + s.ppu.m3Skip + 160 < 456 →
    (n < s.ppu.m3Skip + 160 → (tickSlow^[n] s).ppu.mode = .transfer) ∧
    (n = s.ppu.m3Skip + 160 → (tickSlow^[n] s).ppu.mode = .hblank ∧ (tickSlow^[n] s).ppu.px = 160))

/-- R536: the candidates of a scanline are the first ten entries in OAM order that overlap it, in ascending `x`, equal `x`
in OAM order. -/
def Obligations.OamScanSelectsTen : Prop :=
  ∀ (oam : Memory) (ly h : Nat),
    let hit (t : Sprite) : Bool := decide (t.y.toNat ≤ ly + 16) && decide (ly + 16 < t.y.toNat + h)
    let first := (((List.range 40).map (oamEntry oam)).filter hit).take 10
    (oamScan oam ly h).length ≤ 10 ∧ (oamScan oam ly h).Perm first ∧
    (oamScan oam ly h).Pairwise (fun t u => t.x.toNat < u.x.toNat ∨ (t.x = u.x ∧ t.idx < u.idx))

/-- R528, R529, R530: switching the LCD off forces mode 0 at the start of the frame and stops the PPU; switching it on
starts a frame in mode 2; other LCDC writes only store the byte. -/
def Obligations.LcdSwitch : Prop :=
  ∀ (s : State) (v : Byte),
    let t := busWrite s 0xFF40#16 v
    t.ppu.lcdc = v ∧ t = { s with ppu := t.ppu } ∧ t.ppu.fb = s.ppu.fb ∧ t.ppu.frameDone = s.ppu.frameDone ∧
    (s.ppu.lcdc.getLsbD 7 = true → v.getLsbD 7 = false →
      t.ppu.mode = .hblank ∧ t.ppu.ly = 0 ∧ t.ppu.lx = 0 ∧ t.ppu.winLine = 0#8 ∧ t.ppu.winYTrig = false) ∧
    (s.ppu.lcdc.getLsbD 7 = false → v.getLsbD 7 = true →
      t.ppu.mode = .oamScan ∧ t.ppu.ly = 0 ∧ t.ppu.lx = 0 ∧ t.ppu.px = 0 ∧ t.ppu.m3Skip = 0 ∧
      t.ppu.m3Done = false ∧ t.ppu.winLine = 0#8 ∧ t.ppu.winDrawn = false ∧
      (t.ppu.winYTrig = true ↔ s.ppu.wy = 0#8)) ∧
    (s.ppu.lcdc.getLsbD 7 = v.getLsbD 7 → t.ppu = { s.ppu with lcdc := v }) ∧
    (s.ppu.lcdOn = false → (tickSlow s).ppu = s.ppu)

/-! ## APU -/

/-- R594, R595, R597, R603, R614: a trigger enables a channel exactly when its converter is on, with the period, position,
volume, envelope and length taken from the registers; with the converter off the channel stays as it is. -/
def Obligations.TriggerNeedsConverter : Prop :=
  ∀ (s : State) (v : Byte), s.apu.on = true → v.getLsbD 7 = true →
    let wl (r3 : Byte) : Nat := v.toNat % 8 * 256 + r3.toNat
    let c1 := (busWrite s 0xFF14#16 v).apu.ch1
    let c2 := (busWrite s 0xFF19#16 v).apu.ch2
    let c3 := (busWrite s 0xFF1E#16 v).apu.ch3
    let c4 := (busWrite s 0xFF23#16 v).apu.ch4
    (s.apu.ch1.r2 ≠ 0#8 → c1.en = true ∧ c1.pcnt = 2048 - wl s.apu.ch1.r3 ∧ c1.dutyPos = 0 ∧
      c1.vol = s.apu.ch1.r2.toNat / 16 ∧ c1.envCnt = s.apu.ch1.r2.toNat % 8 ∧
      c1.len = 64 - s.apu.ch1.r1.toNat % 64 ∧
      (busWrite s 0xFF14#16 v).apu.sweepCnt = s.apu.nr10.toNat / 16 % 8) ∧
    (s.apu.ch1.r2 = 0#8 → c1 = { s.apu.ch1 with r4 := v &&& 0x47#8 }) ∧
    (s.apu.ch2.r2 ≠ 0#8 → c2.en = true ∧ c2.pcnt = 2048 - wl s.apu.ch2.r3 ∧ c2.dutyPos = 0 ∧
      c2.vol = s.apu.ch2.r2.toNat / 16 ∧ c2.envCnt = s.apu.ch2.r2.toNat % 8 ∧
      c2.len = 64 - s.apu.ch2.r1.toNat % 64) ∧
    (s.apu.ch2.r2 = 0#8 → c2 = { s.apu.ch2 with r4 := v &&& 0x47#8 }) ∧
    (s.apu.ch3.r0.getLsbD 7 = true → c3.en = true ∧ c3.pcnt = 2048 - wl s.apu.ch3.r3 ∧ c3.pos = 0 ∧
      c3.len = 256 - s.apu.ch3.r1.toNat) ∧
    (s.apu.ch3.r0.getLsbD 7 = false → c3 = { s.apu.ch3 with r4 := v &&& 0x47#8 }) ∧
    (s.apu.ch4.r2 ≠ 0#8 → c4.en = true ∧ c4.lfsr = 0x7FFF#15 ∧ c4.vol = s.apu.ch4.r2.toNat / 16 ∧
      c4.envCnt = s.apu.ch4.r2.toNat % 8 ∧ c4.len = 64 - s.apu.ch4.r1.toNat % 64 ∧
      c4.pcnt = noiseDiv (s.apu.ch4.r3.toNat % 8) * 2 ^ (s.apu.ch4.r3.toNat / 16)) ∧
    (s.apu.ch4.r2 = 0#8 → c4 = { s.apu.ch4 with r4 := v &&& 0x40#8 })

/-- R582, R583, R630: switching the APU off clears NR10 to NR51 and every channel, and while it is off writes to them do
nothing, the wave RAM is kept, and `Mix()` is silent. -/
def Obligations.ApuSwitchedOff : Prop :=
  ∀ (s : State) (v : Byte), s.apu.on = true → v.getLsbD 7 = false →
    let t := busWrite s 0xFF26#16 v
    t.apu.on = false ∧ t.wave = s.wave ∧ t.apu.mix t.wave = (0, 0) ∧ busRead t 0xFF26#16 = 0x70#8 ∧
    (∀ (a : Word) (w : Byte), 0xFF10 ≤ a.toNat → a.toNat ≤ 0xFF25 → busWrite t a w = t) ∧
    [0xFF10#16, 0xFF11#16, 0xFF12#16, 0xFF13#16, 0xFF14#16, 0xFF16#16, 0xFF17#16, 0xFF18#16, 0xFF19#16, 0xFF1A#16,
      0xFF1B#16, 0xFF1C#16, 0xFF1D#16, 0xFF1E#16, 0xFF20#16, 0xFF21#16, 0xFF22#16, 0xFF23#16, 0xFF24#16,
      0xFF25#16].map (busRead t) =
    [0x80#8, 0x3F#8, 0x00#8, 0xFF#8, 0xBF#8, 0x3F#8, 0x00#8, 0xFF#8, 0xBF#8, 0x7F#8,
      0xFF#8, 0x9F#8, 0xFF#8, 0xBF#8, 0xFF#8, 0x00#8, 0x00#8, 0xBF#8, 0x00#8, 0x00#8]

/-- R593, R602, R613, R620: each channel's output lies in 0..15 and is 0 when the channel is disabled, whatever the other
channels do; each side of the mix lies in 0..480, and is 0 when every channel is disabled. Of the invariant `Apu.Ok` only the
ranges of the three volumes are needed. -/
def Obligations.MixStaysInRange : Prop :=
  ∀ (a : Apu) (wave : Memory), a.ch1.vol ≤ 15 → a.ch2.vol ≤ 15 → a.ch4.vol ≤ 15 →
    a.ch1.out ≤ 15 ∧ a.ch2.out ≤ 15 ∧ a.ch3.out wave ≤ 15 ∧ a.ch4.out ≤ 15 ∧
    (a.ch1.en = false → a.ch1.out = 0) ∧ (a.ch2.en = false → a.ch2.out = 0) ∧
    (a.ch3.en = false → a.ch3.out wave = 0) ∧ (a.ch4.en = false → a.ch4.out = 0) ∧
    (a.mix wave).1 ≤ 480 ∧ (a.mix wave).2 ≤ 480 ∧
    (a.ch1.en = false → a.ch2.en = false → a.ch3.en = false → a.ch4.en = false → a.mix wave = (0, 0))

/-! ## Cartridge -/

/-- R655, R660 to R663, R665 to R668, R671, R680, R681: what the cartridge's three windows show, for every mapper kind. After a
write of `v` to 0x2100, ROM window 1 shows the bank the mapper computes, 0 read as 1 but for type 5; ROM window 0 shows bank
0, but for type 1 in mode 1 with more than 32 banks; both are taken modulo the bank count and lie inside the image. R657, R658:
after a write of 0x00 to 0x0000 a mapper with a RAM-enable latch reads 0xFF at 0xA000-0xBFFF and discards writes there; a
byte other than 0x0A and 0x00 leaves the latch alone. After a write of 0x0A to 0x0000 and of `v` to 0x4000 that window
shows, and stores to, the RAM bank the mapper selects modulo the bank count, the half-bytes of type 2, or a register of
the latched clock. -/
def Obligations.CartridgeWindows : Prop :=
  (∀ (s : State) (v : Byte) (off : Nat), off < 0x4000 → 0 < s.cart.romBanks →
    let t := busWrite s 0x2100#16 v
    let orOne (b : Nat) : Nat := if b = 0 then 1 else b
    let b : Nat := match s.cart.mapper with
      | .none => 1
      | .mbc1 m => m.bankHi.toNat * 32 + orOne (v.toNat % 32)
      | .mbc2 _ => orOne (v.toNat % 16)
      | .mbc3 _ => orOne (v.toNat % 128)
      | .mbc5 m => m.romHi.toNat * 256 + v.toNat
    let at_ := b % s.cart.romBanks * 0x4000 + off
    rawRead t (BitVec.ofNat 16 (0x4000 + off)) = s.cart.rom.read at_ ∧ at_ < s.cart.romBanks * 0x4000) ∧
  (∀ (s : State) (off : Nat), off < 0x4000 → 0 < s.cart.romBanks →
    let b : Nat := match s.cart.mapper with
      | .mbc1 m => if m.mode = true ∧ 32 < s.cart.romBanks then m.bankHi.toNat * 32 else 0
      | _ => 0
    let at_ := b % s.cart.romBanks * 0x4000 + off
    rawRead s (BitVec.ofNat 16 off) = s.cart.rom.read at_ ∧ at_ < s.cart.romBanks * 0x4000) ∧
  (∀ (s : State) (a : Word) (v : Byte), s.cart.mapper ≠ .none → 0xA000 ≤ a.toNat → a.toNat ≤ 0xBFFF →
    let t := busWrite s 0x0000#16 0x00#8
    rawRead t a = 0xFF#8 ∧ busWrite t a v = t ∧
    (v ≠ 0x0A#8 → v ≠ 0x00#8 → busWrite s 0x0000#16 v = s)) ∧
  (∀ (s : State) (a : Word) (v w : Byte), s.Canonical → 0xA000 ≤ a.toNat → a.toNat ≤ 0xBFFF →
    let t := busWrite (busWrite s 0x0000#16 0x0A#8) 0x4000#16 v
    let u := busWrite t a w
    let absent : Prop := rawRead t a = 0xFF#8 ∧ u = t
    let ram (rb : Nat) : Prop :=
      if s.cart.ramBanks = 0 then absent
      else
        let at_ := rb % s.cart.ramBanks * 0x2000 + (a.toNat - 0xA000)
        rawRead t a = s.cart.eram.read at_ ∧ at_ < s.cart.ramBanks * 0x2000 ∧ rawRead u a = w
    let sel := v.toNat % 16
    match s.cart.mapper with
    | .none => ram 0
    | .mbc1 m => ram (if m.mode = true then v.toNat % 4 else 0)
    | .mbc2 m =>
      rawRead t a = 0xF0#8 ||| (m.ram.read (a.toNat % 0x200)).setWidth 8 ∧ rawRead u a = 0xF0#8 ||| w
    | .mbc3 m =>
      if sel < 8 then ram sel
      else match m.rtc with
        | none => absent
        | some r =>
          let ctrl : Nat := (if r.latched.carry then 128 else 0) + (if r.latched.halt then 64 else 0) +
            (if r.latched.dayHi then 1 else 0)
          if sel ≤ 12 then
            rawRead t a = (match sel with
              | 8 => r.latched.sec.setWidth 8 | 9 => r.latched.min.setWidth 8 | 10 => r.latched.hour.setWidth 8
              | 11 => r.latched.dayLo | _ => BitVec.ofNat 8 ctrl) ∧
            rawRead u a = rawRead t a
          else absent
    | .mbc5 _ => ram sel)

/-- R674: the clock as one number of seconds. An update of a running clock adds the elapsed seconds modulo 512 days, sets
the sticky carry on an overflow of the day counter, and brings every register into range; a halted clock only moves its
anchor. -/
def Obligations.ClockAddsElapsedSeconds : Prop :=
  ∀ (t : Rtc) (now : Int), t.anchor ≤ now →
    let total (r : RtcRegs) : Nat := r.sec.toNat + 60 * r.min.toNat + 3600 * r.hour.toNat + 86400 * r.day
    let u := t.update now
    let after := total t.live + (now - t.anchor).toNat
    u.anchor = now ∧ u.latched = t.latched ∧
    (t.live.halt = true → u.live = t.live) ∧
    (t.live.halt = false → u.live.halt = false ∧ u.live.sec.toNat < 60 ∧ u.live.min.toNat < 60 ∧
      u.live.hour.toNat < 24 ∧ total u.live = after % (512 * 86400) ∧
      (u.live.carry = true ↔ t.live.carry = true ∨ 512 * 86400 ≤ after))

/-! ## Reset and invariants -/

/-- R21 to R23, R26, R28, R29, R700: the values after reset in both modes, for any cartridge, parameters and inputs: the CPU,
the empty arrays, and what every register of R29, readable or write-only, and the wave RAM read. `State.reset` is this state
for the model's choice of cartridge, parameters and inputs (log entries 1, 2, 3). -/
def Obligations.ResetValues : Prop :=
  (∀ (cgb : Bool) (p : Params) (cart : Cart) (inp : Inputs),
    let s := State.resetWith cgb p cart inp
    s.cpu.af = (if cgb then 0x1180#16 else 0x01B0#16) ∧ s.cpu.bc = (if cgb then 0x0000#16 else 0x0013#16) ∧
    s.cpu.de = (if cgb then 0xFF56#16 else 0x00D8#16) ∧ s.cpu.hl = (if cgb then 0x000D#16 else 0x014D#16) ∧
    s.cpu.sp = 0xFFFE#16 ∧ s.cpu.pc = 0x0100#16 ∧
    (s.cpu.ime || s.cpu.imePending || s.cpu.halt || s.cpu.stop || s.cpu.illegal) = false ∧
    (∀ c : Cell, (∀ k, c ≠ .rom k) → (∀ k, c ≠ .eram k) → (∀ k, c ≠ .mbc2 k) → s.cell c = 0#8) ∧
    (∀ x ∈ [(0xFF00#16, 0xFF#8), (0xFF01#16, 0x00#8), (0xFF02#16, if cgb then 0x7C#8 else 0x7E#8),
        (0xFF04#16, 0xAB#8), (0xFF05#16, 0x00#8), (0xFF06#16, 0x00#8), (0xFF07#16, 0xF8#8), (0xFF0F#16, 0xE1#8),
        (0xFFFF#16, 0x00#8)], busRead s x.1 = x.2) ∧
    (∀ x ∈ [(0xFF10#16, 0x80#8), (0xFF11#16, 0xBF#8), (0xFF12#16, 0xF3#8), (0xFF13#16, 0xFF#8), (0xFF14#16, 0xBF#8),
        (0xFF16#16, 0x3F#8), (0xFF17#16, 0x00#8), (0xFF18#16, 0xFF#8), (0xFF19#16, 0xBF#8),
        (0xFF1A#16, 0x7F#8), (0xFF1B#16, 0xFF#8), (0xFF1C#16, 0x9F#8), (0xFF1D#16, 0xFF#8), (0xFF1E#16, 0xBF#8),
        (0xFF20#16, 0xFF#8), (0xFF21#16, 0x00#8), (0xFF22#16, 0x00#8), (0xFF23#16, 0xBF#8),
        (0xFF24#16, 0x77#8), (0xFF25#16, 0xF3#8), (0xFF26#16, 0xF0#8)], busRead s x.1 = x.2) ∧
    (∀ k : Nat, k < 16 → busRead s (BitVec.ofNat 16 (0xFF30 + k)) = 0x00#8) ∧
    (∀ x ∈ [(0xFF40#16, 0x91#8), (0xFF41#16, 0x86#8), (0xFF42#16, 0x00#8), (0xFF43#16, 0x00#8), (0xFF44#16, 0x00#8),
        (0xFF45#16, 0x00#8), (0xFF46#16, 0xFF#8), (0xFF47#16, 0xFC#8), (0xFF48#16, 0xFF#8), (0xFF49#16, 0xFF#8),
        (0xFF4A#16, 0x00#8), (0xFF4B#16, 0x00#8)], busRead s x.1 = x.2) ∧
    (∀ x ∈ [(0xFF4D#16, 0x7E#8), (0xFF4F#16, 0xFE#8), (0xFF51#16, 0xFF#8), (0xFF52#16, 0xFF#8), (0xFF53#16, 0xFF#8),
        (0xFF54#16, 0xFF#8), (0xFF55#16, 0xFF#8), (0xFF68#16, 0x40#8), (0xFF69#16, 0x00#8), (0xFF6A#16, 0x40#8),
        (0xFF6B#16, 0x00#8), (0xFF70#16, 0xF8#8)], busRead s x.1 = if cgb then x.2 else 0xFF#8)) ∧
  State.reset = State.resetWith false Params.default Cart.blank Inputs.reset

/-- The invariants below hold of the reset state. -/
def Obligations.ResetMeetsInvariants : Prop :=
  State.reset.Canonical ∧ State.reset.HaltStopExclusive ∧ State.reset.ppu.Ok ∧ State.reset.apu.Ok ∧
  State.reset.SamplerOk ∧ State.reset.MonoOk ∧ State.reset.EnginesOk

/-- Every step keeps every storage array in canonical form, from every state that has it. -/
def Obligations.StepKeepsCanonicalMemory : Prop :=
  ∀ s t : State, s.Canonical → step s = .next t → t.Canonical

/-- R27, R510, R512, R530, R536: every step keeps at most one of `halt` and `stop` active, and the PPU's counters and mode in
the scanline picture. -/
def Obligations.StepKeepsCpuAndPpuInvariant : Prop :=
  ∀ s t : State, s.HaltStopExclusive → s.ppu.Ok → step s = .next t → t.HaltStopExclusive ∧ t.ppu.Ok

/-- R581, R597: every step keeps a channel disabled while its converter is off, and every counter of the APU's channels, frame
sequencer and sample output in the range R581 gives; channel 4's period counter reaches 3670016, the longest period of R611,
and not R581's 1835008 (log entry 14, DEDUCED). R124, R347, R450, R480, R490, R491: it keeps the extended-mode state at its
reset values in monochrome mode, and the transfer engines and the timer latch in range. -/
def Obligations.StepKeepsDeviceInvariants : Prop :=
  (∀ s t : State, s.apu.Ok → step s = .next t → t.apu.Ok) ∧
  (∀ s t : State, s.SamplerOk → step s = .next t → t.SamplerOk) ∧
  (∀ s t : State, s.MonoOk → step s = .next t → t.MonoOk) ∧
  (∀ s t : State, s.EnginesOk → step s = .next t → t.EnginesOk)
end

