-- ==== Sys2Proof/Laws/Bits.lean ====
section
/-! SUPPORT. Halves of words, and register F as a byte. -/
namespace Sys2Proof

@[simp] theorem pair_hi_lo (w : Word) : pair (hiByte w) (loByte w) = w := by
  apply BitVec.eq_of_getLsbD_eq
  intro i hi
  unfold pair hiByte loByte
  rw [BitVec.getLsbD_append, BitVec.getLsbD_extractLsb', BitVec.getLsbD_extractLsb']
  split
  · simp [*]
  · have h8 : i - 8 < 8 := by omega
    have hs : 8 + (i - 8) = i := by omega
    simp [h8, hs]

@[simp] theorem hiByte_pair (h l : Byte) : hiByte (pair h l) = h := by
  apply BitVec.eq_of_getLsbD_eq
  intro i hi
  unfold pair hiByte
  rw [BitVec.getLsbD_extractLsb', BitVec.getLsbD_append]
  have h1 : ¬ 8 + i < 8 := by omega
  have h2 : 8 + i - 8 = i := by omega
  simp [hi, h2]

@[simp] theorem loByte_pair (h l : Byte) : loByte (pair h l) = l := by
  apply BitVec.eq_of_getLsbD_eq
  intro i hi
  unfold pair loByte
  rw [BitVec.getLsbD_extractLsb', BitVec.getLsbD_append]
  simp [hi]

theorem toNat_pair (h l : Byte) : (pair h l).toNat = h.toNat * 256 + l.toNat := by
  unfold pair
  rw [BitVec.toNat_append, Nat.shiftLeft_eq, Nat.mul_comm, ← Nat.two_pow_add_eq_or_of_lt l.isLt, Nat.mul_comm]

/-- `sext_16` (00_scope.md R9) is sign extension. -/
theorem sext16_eq (e : Byte) : sext16 e = e.signExtend 16 := by revert e; decide

/-- The high page (40_load8.md R212 to R215) as a sum. -/
theorem highPage_eq (n : Byte) : highPage n = 0xFF00#16 + n.setWidth 16 := by revert n; decide

namespace Machine

@[simp] theorem Flags.ofByte_toByte (f : Flags) : Flags.ofByte f.toByte = f := by
  obtain ⟨z, n, h, c⟩ := f
  cases z <;> cases n <;> cases h <;> cases c <;> rfl

theorem Flags.toByte_ofByte (v : Byte) : (Flags.ofByte v).toByte = v &&& 0xF0#8 := by
  revert v; decide

end Machine

end Sys2Proof
end

