-- ==== Sys2Proof/Laws/State.lean ====
section
/-! SUPPORT. One lemma per field per update of State, so that no proof unfolds a record update. -/
namespace Sys2Proof.Machine

/-! ### setPc -/

@[simp] theorem State.setPc_cgb (s : State) (v : Word) : (s.setPc v).cgb = s.cgb := rfl
@[simp] theorem State.setPc_params (s : State) (v : Word) : (s.setPc v).params = s.params := rfl
@[simp] theorem State.setPc_irq (s : State) (v : Word) : (s.setPc v).irq = s.irq := rfl
@[simp] theorem State.setPc_timer (s : State) (v : Word) : (s.setPc v).timer = s.timer := rfl
@[simp] theorem State.setPc_joy (s : State) (v : Word) : (s.setPc v).joy = s.joy := rfl
@[simp] theorem State.setPc_serial (s : State) (v : Word) : (s.setPc v).serial = s.serial := rfl
@[simp] theorem State.setPc_speed (s : State) (v : Word) : (s.setPc v).speed = s.speed := rfl
@[simp] theorem State.setPc_banks (s : State) (v : Word) : (s.setPc v).banks = s.banks := rfl
@[simp] theorem State.setPc_dma (s : State) (v : Word) : (s.setPc v).dma = s.dma := rfl
@[simp] theorem State.setPc_hdma (s : State) (v : Word) : (s.setPc v).hdma = s.hdma := rfl
@[simp] theorem State.setPc_vram (s : State) (v : Word) : (s.setPc v).vram = s.vram := rfl
@[simp] theorem State.setPc_wram (s : State) (v : Word) : (s.setPc v).wram = s.wram := rfl
@[simp] theorem State.setPc_oam (s : State) (v : Word) : (s.setPc v).oam = s.oam := rfl
@[simp] theorem State.setPc_hram (s : State) (v : Word) : (s.setPc v).hram = s.hram := rfl
@[simp] theorem State.setPc_bgpal (s : State) (v : Word) : (s.setPc v).bgpal = s.bgpal := rfl
@[simp] theorem State.setPc_obpal (s : State) (v : Word) : (s.setPc v).obpal = s.obpal := rfl
@[simp] theorem State.setPc_wave (s : State) (v : Word) : (s.setPc v).wave = s.wave := rfl
@[simp] theorem State.setPc_ppu (s : State) (v : Word) : (s.setPc v).ppu = s.ppu := rfl
@[simp] theorem State.setPc_apu (s : State) (v : Word) : (s.setPc v).apu = s.apu := rfl
@[simp] theorem State.setPc_cart (s : State) (v : Word) : (s.setPc v).cart = s.cart := rfl
@[simp] theorem State.setPc_inputs (s : State) (v : Word) : (s.setPc v).inputs = s.inputs := rfl

@[simp] theorem State.setPc_cpu_a (s : State) (v : Word) : (s.setPc v).cpu.a = s.cpu.a := rfl
@[simp] theorem State.setPc_cpu_f (s : State) (v : Word) : (s.setPc v).cpu.f = s.cpu.f := rfl
@[simp] theorem State.setPc_cpu_b (s : State) (v : Word) : (s.setPc v).cpu.b = s.cpu.b := rfl
@[simp] theorem State.setPc_cpu_c (s : State) (v : Word) : (s.setPc v).cpu.c = s.cpu.c := rfl
@[simp] theorem State.setPc_cpu_d (s : State) (v : Word) : (s.setPc v).cpu.d = s.cpu.d := rfl
@[simp] theorem State.setPc_cpu_e (s : State) (v : Word) : (s.setPc v).cpu.e = s.cpu.e := rfl
@[simp] theorem State.setPc_cpu_h (s : State) (v : Word) : (s.setPc v).cpu.h = s.cpu.h := rfl
@[simp] theorem State.setPc_cpu_l (s : State) (v : Word) : (s.setPc v).cpu.l = s.cpu.l := rfl
@[simp] theorem State.setPc_cpu_sp (s : State) (v : Word) : (s.setPc v).cpu.sp = s.cpu.sp := rfl
@[simp] theorem State.setPc_cpu_pc (s : State) (v : Word) : (s.setPc v).cpu.pc = v := rfl
@[simp] theorem State.setPc_cpu_ime (s : State) (v : Word) : (s.setPc v).cpu.ime = s.cpu.ime := rfl
@[simp] theorem State.setPc_cpu_imePending (s : State) (v : Word) : (s.setPc v).cpu.imePending = s.cpu.imePending := rfl
@[simp] theorem State.setPc_cpu_halt (s : State) (v : Word) : (s.setPc v).cpu.halt = s.cpu.halt := rfl
@[simp] theorem State.setPc_cpu_stop (s : State) (v : Word) : (s.setPc v).cpu.stop = s.cpu.stop := rfl
@[simp] theorem State.setPc_cpu_illegal (s : State) (v : Word) : (s.setPc v).cpu.illegal = s.cpu.illegal := rfl

/-! ### setSp -/

@[simp] theorem State.setSp_cgb (s : State) (v : Word) : (s.setSp v).cgb = s.cgb := rfl
@[simp] theorem State.setSp_params (s : State) (v : Word) : (s.setSp v).params = s.params := rfl
@[simp] theorem State.setSp_irq (s : State) (v : Word) : (s.setSp v).irq = s.irq := rfl
@[simp] theorem State.setSp_timer (s : State) (v : Word) : (s.setSp v).timer = s.timer := rfl
@[simp] theorem State.setSp_joy (s : State) (v : Word) : (s.setSp v).joy = s.joy := rfl
@[simp] theorem State.setSp_serial (s : State) (v : Word) : (s.setSp v).serial = s.serial := rfl
@[simp] theorem State.setSp_speed (s : State) (v : Word) : (s.setSp v).speed = s.speed := rfl
@[simp] theorem State.setSp_banks (s : State) (v : Word) : (s.setSp v).banks = s.banks := rfl
@[simp] theorem State.setSp_dma (s : State) (v : Word) : (s.setSp v).dma = s.dma := rfl
@[simp] theorem State.setSp_hdma (s : State) (v : Word) : (s.setSp v).hdma = s.hdma := rfl
@[simp] theorem State.setSp_vram (s : State) (v : Word) : (s.setSp v).vram = s.vram := rfl
@[simp] theorem State.setSp_wram (s : State) (v : Word) : (s.setSp v).wram = s.wram := rfl
@[simp] theorem State.setSp_oam (s : State) (v : Word) : (s.setSp v).oam = s.oam := rfl
@[simp] theorem State.setSp_hram (s : State) (v : Word) : (s.setSp v).hram = s.hram := rfl
@[simp] theorem State.setSp_bgpal (s : State) (v : Word) : (s.setSp v).bgpal = s.bgpal := rfl
@[simp] theorem State.setSp_obpal (s : State) (v : Word) : (s.setSp v).obpal = s.obpal := rfl
@[simp] theorem State.setSp_wave (s : State) (v : Word) : (s.setSp v).wave = s.wave := rfl
@[simp] theorem State.setSp_ppu (s : State) (v : Word) : (s.setSp v).ppu = s.ppu := rfl
@[simp] theorem State.setSp_apu (s : State) (v : Word) : (s.setSp v).apu = s.apu := rfl
@[simp] theorem State.setSp_cart (s : State) (v : Word) : (s.setSp v).cart = s.cart := rfl
@[simp] theorem State.setSp_inputs (s : State) (v : Word) : (s.setSp v).inputs = s.inputs := rfl

@[simp] theorem State.setSp_cpu_a (s : State) (v : Word) : (s.setSp v).cpu.a = s.cpu.a := rfl
@[simp] theorem State.setSp_cpu_f (s : State) (v : Word) : (s.setSp v).cpu.f = s.cpu.f := rfl
@[simp] theorem State.setSp_cpu_b (s : State) (v : Word) : (s.setSp v).cpu.b = s.cpu.b := rfl
@[simp] theorem State.setSp_cpu_c (s : State) (v : Word) : (s.setSp v).cpu.c = s.cpu.c := rfl
@[simp] theorem State.setSp_cpu_d (s : State) (v : Word) : (s.setSp v).cpu.d = s.cpu.d := rfl
@[simp] theorem State.setSp_cpu_e (s : State) (v : Word) : (s.setSp v).cpu.e = s.cpu.e := rfl
@[simp] theorem State.setSp_cpu_h (s : State) (v : Word) : (s.setSp v).cpu.h = s.cpu.h := rfl
@[simp] theorem State.setSp_cpu_l (s : State) (v : Word) : (s.setSp v).cpu.l = s.cpu.l := rfl
@[simp] theorem State.setSp_cpu_sp (s : State) (v : Word) : (s.setSp v).cpu.sp = v := rfl
@[simp] theorem State.setSp_cpu_pc (s : State) (v : Word) : (s.setSp v).cpu.pc = s.cpu.pc := rfl
@[simp] theorem State.setSp_cpu_ime (s : State) (v : Word) : (s.setSp v).cpu.ime = s.cpu.ime := rfl
@[simp] theorem State.setSp_cpu_imePending (s : State) (v : Word) : (s.setSp v).cpu.imePending = s.cpu.imePending := rfl
@[simp] theorem State.setSp_cpu_halt (s : State) (v : Word) : (s.setSp v).cpu.halt = s.cpu.halt := rfl
@[simp] theorem State.setSp_cpu_stop (s : State) (v : Word) : (s.setSp v).cpu.stop = s.cpu.stop := rfl
@[simp] theorem State.setSp_cpu_illegal (s : State) (v : Word) : (s.setSp v).cpu.illegal = s.cpu.illegal := rfl

/-! ### setIme -/

@[simp] theorem State.setIme_cgb (s : State) (v : Bool) : (s.setIme v).cgb = s.cgb := rfl
@[simp] theorem State.setIme_params (s : State) (v : Bool) : (s.setIme v).params = s.params := rfl
@[simp] theorem State.setIme_irq (s : State) (v : Bool) : (s.setIme v).irq = s.irq := rfl
@[simp] theorem State.setIme_timer (s : State) (v : Bool) : (s.setIme v).timer = s.timer := rfl
@[simp] theorem State.setIme_joy (s : State) (v : Bool) : (s.setIme v).joy = s.joy := rfl
@[simp] theorem State.setIme_serial (s : State) (v : Bool) : (s.setIme v).serial = s.serial := rfl
@[simp] theorem State.setIme_speed (s : State) (v : Bool) : (s.setIme v).speed = s.speed := rfl
@[simp] theorem State.setIme_banks (s : State) (v : Bool) : (s.setIme v).banks = s.banks := rfl
@[simp] theorem State.setIme_dma (s : State) (v : Bool) : (s.setIme v).dma = s.dma := rfl
@[simp] theorem State.setIme_hdma (s : State) (v : Bool) : (s.setIme v).hdma = s.hdma := rfl
@[simp] theorem State.setIme_vram (s : State) (v : Bool) : (s.setIme v).vram = s.vram := rfl
@[simp] theorem State.setIme_wram (s : State) (v : Bool) : (s.setIme v).wram = s.wram := rfl
@[simp] theorem State.setIme_oam (s : State) (v : Bool) : (s.setIme v).oam = s.oam := rfl
@[simp] theorem State.setIme_hram (s : State) (v : Bool) : (s.setIme v).hram = s.hram := rfl
@[simp] theorem State.setIme_bgpal (s : State) (v : Bool) : (s.setIme v).bgpal = s.bgpal := rfl
@[simp] theorem State.setIme_obpal (s : State) (v : Bool) : (s.setIme v).obpal = s.obpal := rfl
@[simp] theorem State.setIme_wave (s : State) (v : Bool) : (s.setIme v).wave = s.wave := rfl
@[simp] theorem State.setIme_ppu (s : State) (v : Bool) : (s.setIme v).ppu = s.ppu := rfl
@[simp] theorem State.setIme_apu (s : State) (v : Bool) : (s.setIme v).apu = s.apu := rfl
@[simp] theorem State.setIme_cart (s : State) (v : Bool) : (s.setIme v).cart = s.cart := rfl
@[simp] theorem State.setIme_inputs (s : State) (v : Bool) : (s.setIme v).inputs = s.inputs := rfl

@[simp] theorem State.setIme_cpu_a (s : State) (v : Bool) : (s.setIme v).cpu.a = s.cpu.a := rfl
@[simp] theorem State.setIme_cpu_f (s : State) (v : Bool) : (s.setIme v).cpu.f = s.cpu.f := rfl
@[simp] theorem State.setIme_cpu_b (s : State) (v : Bool) : (s.setIme v).cpu.b = s.cpu.b := rfl
@[simp] theorem State.setIme_cpu_c (s : State) (v : Bool) : (s.setIme v).cpu.c = s.cpu.c := rfl
@[simp] theorem State.setIme_cpu_d (s : State) (v : Bool) : (s.setIme v).cpu.d = s.cpu.d := rfl
@[simp] theorem State.setIme_cpu_e (s : State) (v : Bool) : (s.setIme v).cpu.e = s.cpu.e := rfl
@[simp] theorem State.setIme_cpu_h (s : State) (v : Bool) : (s.setIme v).cpu.h = s.cpu.h := rfl
@[simp] theorem State.setIme_cpu_l (s : State) (v : Bool) : (s.setIme v).cpu.l = s.cpu.l := rfl
@[simp] theorem State.setIme_cpu_sp (s : State) (v : Bool) : (s.setIme v).cpu.sp = s.cpu.sp := rfl
@[simp] theorem State.setIme_cpu_pc (s : State) (v : Bool) : (s.setIme v).cpu.pc = s.cpu.pc := rfl
@[simp] theorem State.setIme_cpu_ime (s : State) (v : Bool) : (s.setIme v).cpu.ime = v := rfl
@[simp] theorem State.setIme_cpu_imePending (s : State) (v : Bool) : (s.setIme v).cpu.imePending = s.cpu.imePending := rfl
@[simp] theorem State.setIme_cpu_halt (s : State) (v : Bool) : (s.setIme v).cpu.halt = s.cpu.halt := rfl
@[simp] theorem State.setIme_cpu_stop (s : State) (v : Bool) : (s.setIme v).cpu.stop = s.cpu.stop := rfl
@[simp] theorem State.setIme_cpu_illegal (s : State) (v : Bool) : (s.setIme v).cpu.illegal = s.cpu.illegal := rfl

/-! ### setImePending -/

@[simp] theorem State.setImePending_cgb (s : State) (v : Bool) : (s.setImePending v).cgb = s.cgb := rfl
@[simp] theorem State.setImePending_params (s : State) (v : Bool) : (s.setImePending v).params = s.params := rfl
@[simp] theorem State.setImePending_irq (s : State) (v : Bool) : (s.setImePending v).irq = s.irq := rfl
@[simp] theorem State.setImePending_timer (s : State) (v : Bool) : (s.setImePending v).timer = s.timer := rfl
@[simp] theorem State.setImePending_joy (s : State) (v : Bool) : (s.setImePending v).joy = s.joy := rfl
@[simp] theorem State.setImePending_serial (s : State) (v : Bool) : (s.setImePending v).serial = s.serial := rfl
@[simp] theorem State.setImePending_speed (s : State) (v : Bool) : (s.setImePending v).speed = s.speed := rfl
@[simp] theorem State.setImePending_banks (s : State) (v : Bool) : (s.setImePending v).banks = s.banks := rfl
@[simp] theorem State.setImePending_dma (s : State) (v : Bool) : (s.setImePending v).dma = s.dma := rfl
@[simp] theorem State.setImePending_hdma (s : State) (v : Bool) : (s.setImePending v).hdma = s.hdma := rfl
@[simp] theorem State.setImePending_vram (s : State) (v : Bool) : (s.setImePending v).vram = s.vram := rfl
@[simp] theorem State.setImePending_wram (s : State) (v : Bool) : (s.setImePending v).wram = s.wram := rfl
@[simp] theorem State.setImePending_oam (s : State) (v : Bool) : (s.setImePending v).oam = s.oam := rfl
@[simp] theorem State.setImePending_hram (s : State) (v : Bool) : (s.setImePending v).hram = s.hram := rfl
@[simp] theorem State.setImePending_bgpal (s : State) (v : Bool) : (s.setImePending v).bgpal = s.bgpal := rfl
@[simp] theorem State.setImePending_obpal (s : State) (v : Bool) : (s.setImePending v).obpal = s.obpal := rfl
@[simp] theorem State.setImePending_wave (s : State) (v : Bool) : (s.setImePending v).wave = s.wave := rfl
@[simp] theorem State.setImePending_ppu (s : State) (v : Bool) : (s.setImePending v).ppu = s.ppu := rfl
@[simp] theorem State.setImePending_apu (s : State) (v : Bool) : (s.setImePending v).apu = s.apu := rfl
@[simp] theorem State.setImePending_cart (s : State) (v : Bool) : (s.setImePending v).cart = s.cart := rfl
@[simp] theorem State.setImePending_inputs (s : State) (v : Bool) : (s.setImePending v).inputs = s.inputs := rfl

@[simp] theorem State.setImePending_cpu_a (s : State) (v : Bool) : (s.setImePending v).cpu.a = s.cpu.a := rfl
@[simp] theorem State.setImePending_cpu_f (s : State) (v : Bool) : (s.setImePending v).cpu.f = s.cpu.f := rfl
@[simp] theorem State.setImePending_cpu_b (s : State) (v : Bool) : (s.setImePending v).cpu.b = s.cpu.b := rfl
@[simp] theorem State.setImePending_cpu_c (s : State) (v : Bool) : (s.setImePending v).cpu.c = s.cpu.c := rfl
@[simp] theorem State.setImePending_cpu_d (s : State) (v : Bool) : (s.setImePending v).cpu.d = s.cpu.d := rfl
@[simp] theorem State.setImePending_cpu_e (s : State) (v : Bool) : (s.setImePending v).cpu.e = s.cpu.e := rfl
@[simp] theorem State.setImePending_cpu_h (s : State) (v : Bool) : (s.setImePending v).cpu.h = s.cpu.h := rfl
@[simp] theorem State.setImePending_cpu_l (s : State) (v : Bool) : (s.setImePending v).cpu.l = s.cpu.l := rfl
@[simp] theorem State.setImePending_cpu_sp (s : State) (v : Bool) : (s.setImePending v).cpu.sp = s.cpu.sp := rfl
@[simp] theorem State.setImePending_cpu_pc (s : State) (v : Bool) : (s.setImePending v).cpu.pc = s.cpu.pc := rfl
@[simp] theorem State.setImePending_cpu_ime (s : State) (v : Bool) : (s.setImePending v).cpu.ime = s.cpu.ime := rfl
@[simp] theorem State.setImePending_cpu_imePending (s : State) (v : Bool) : (s.setImePending v).cpu.imePending = v := rfl
@[simp] theorem State.setImePending_cpu_halt (s : State) (v : Bool) : (s.setImePending v).cpu.halt = s.cpu.halt := rfl
@[simp] theorem State.setImePending_cpu_stop (s : State) (v : Bool) : (s.setImePending v).cpu.stop = s.cpu.stop := rfl
@[simp] theorem State.setImePending_cpu_illegal (s : State) (v : Bool) : (s.setImePending v).cpu.illegal = s.cpu.illegal := rfl

/-! ### setHalt -/

@[simp] theorem State.setHalt_cgb (s : State) (v : Bool) : (s.setHalt v).cgb = s.cgb := rfl
@[simp] theorem State.setHalt_params (s : State) (v : Bool) : (s.setHalt v).params = s.params := rfl
@[simp] theorem State.setHalt_irq (s : State) (v : Bool) : (s.setHalt v).irq = s.irq := rfl
@[simp] theorem State.setHalt_timer (s : State) (v : Bool) : (s.setHalt v).timer = s.timer := rfl
@[simp] theorem State.setHalt_joy (s : State) (v : Bool) : (s.setHalt v).joy = s.joy := rfl
@[simp] theorem State.setHalt_serial (s : State) (v : Bool) : (s.setHalt v).serial = s.serial := rfl
@[simp] theorem State.setHalt_speed (s : State) (v : Bool) : (s.setHalt v).speed = s.speed := rfl
@[simp] theorem State.setHalt_banks (s : State) (v : Bool) : (s.setHalt v).banks = s.banks := rfl
@[simp] theorem State.setHalt_dma (s : State) (v : Bool) : (s.setHalt v).dma = s.dma := rfl
@[simp] theorem State.setHalt_hdma (s : State) (v : Bool) : (s.setHalt v).hdma = s.hdma := rfl
@[simp] theorem State.setHalt_vram (s : State) (v : Bool) : (s.setHalt v).vram = s.vram := rfl
@[simp] theorem State.setHalt_wram (s : State) (v : Bool) : (s.setHalt v).wram = s.wram := rfl
@[simp] theorem State.setHalt_oam (s : State) (v : Bool) : (s.setHalt v).oam = s.oam := rfl
@[simp] theorem State.setHalt_hram (s : State) (v : Bool) : (s.setHalt v).hram = s.hram := rfl
@[simp] theorem State.setHalt_bgpal (s : State) (v : Bool) : (s.setHalt v).bgpal = s.bgpal := rfl
@[simp] theorem State.setHalt_obpal (s : State) (v : Bool) : (s.setHalt v).obpal = s.obpal := rfl
@[simp] theorem State.setHalt_wave (s : State) (v : Bool) : (s.setHalt v).wave = s.wave := rfl
@[simp] theorem State.setHalt_ppu (s : State) (v : Bool) : (s.setHalt v).ppu = s.ppu := rfl
@[simp] theorem State.setHalt_apu (s : State) (v : Bool) : (s.setHalt v).apu = s.apu := rfl
@[simp] theorem State.setHalt_cart (s : State) (v : Bool) : (s.setHalt v).cart = s.cart := rfl
@[simp] theorem State.setHalt_inputs (s : State) (v : Bool) : (s.setHalt v).inputs = s.inputs := rfl

@[simp] theorem State.setHalt_cpu_a (s : State) (v : Bool) : (s.setHalt v).cpu.a = s.cpu.a := rfl
@[simp] theorem State.setHalt_cpu_f (s : State) (v : Bool) : (s.setHalt v).cpu.f = s.cpu.f := rfl
@[simp] theorem State.setHalt_cpu_b (s : State) (v : Bool) : (s.setHalt v).cpu.b = s.cpu.b := rfl
@[simp] theorem State.setHalt_cpu_c (s : State) (v : Bool) : (s.setHalt v).cpu.c = s.cpu.c := rfl
@[simp] theorem State.setHalt_cpu_d (s : State) (v : Bool) : (s.setHalt v).cpu.d = s.cpu.d := rfl
@[simp] theorem State.setHalt_cpu_e (s : State) (v : Bool) : (s.setHalt v).cpu.e = s.cpu.e := rfl
@[simp] theorem State.setHalt_cpu_h (s : State) (v : Bool) : (s.setHalt v).cpu.h = s.cpu.h := rfl
@[simp] theorem State.setHalt_cpu_l (s : State) (v : Bool) : (s.setHalt v).cpu.l = s.cpu.l := rfl
@[simp] theorem State.setHalt_cpu_sp (s : State) (v : Bool) : (s.setHalt v).cpu.sp = s.cpu.sp := rfl
@[simp] theorem State.setHalt_cpu_pc (s : State) (v : Bool) : (s.setHalt v).cpu.pc = s.cpu.pc := rfl
@[simp] theorem State.setHalt_cpu_ime (s : State) (v : Bool) : (s.setHalt v).cpu.ime = s.cpu.ime := rfl
@[simp] theorem State.setHalt_cpu_imePending (s : State) (v : Bool) : (s.setHalt v).cpu.imePending = s.cpu.imePending := rfl
@[simp] theorem State.setHalt_cpu_halt (s : State) (v : Bool) : (s.setHalt v).cpu.halt = v := rfl
@[simp] theorem State.setHalt_cpu_stop (s : State) (v : Bool) : (s.setHalt v).cpu.stop = s.cpu.stop := rfl
@[simp] theorem State.setHalt_cpu_illegal (s : State) (v : Bool) : (s.setHalt v).cpu.illegal = s.cpu.illegal := rfl

/-! ### setStop -/

@[simp] theorem State.setStop_cgb (s : State) (v : Bool) : (s.setStop v).cgb = s.cgb := rfl
@[simp] theorem State.setStop_params (s : State) (v : Bool) : (s.setStop v).params = s.params := rfl
@[simp] theorem State.setStop_irq (s : State) (v : Bool) : (s.setStop v).irq = s.irq := rfl
@[simp] theorem State.setStop_timer (s : State) (v : Bool) : (s.setStop v).timer = s.timer := rfl
@[simp] theorem State.setStop_joy (s : State) (v : Bool) : (s.setStop v).joy = s.joy := rfl
@[simp] theorem State.setStop_serial (s : State) (v : Bool) : (s.setStop v).serial = s.serial := rfl
@[simp] theorem State.setStop_speed (s : State) (v : Bool) : (s.setStop v).speed = s.speed := rfl
@[simp] theorem State.setStop_banks (s : State) (v : Bool) : (s.setStop v).banks = s.banks := rfl
@[simp] theorem State.setStop_dma (s : State) (v : Bool) : (s.setStop v).dma = s.dma := rfl
@[simp] theorem State.setStop_hdma (s : State) (v : Bool) : (s.setStop v).hdma = s.hdma := rfl
@[simp] theorem State.setStop_vram (s : State) (v : Bool) : (s.setStop v).vram = s.vram := rfl
@[simp] theorem State.setStop_wram (s : State) (v : Bool) : (s.setStop v).wram = s.wram := rfl
@[simp] theorem State.setStop_oam (s : State) (v : Bool) : (s.setStop v).oam = s.oam := rfl
@[simp] theorem State.setStop_hram (s : State) (v : Bool) : (s.setStop v).hram = s.hram := rfl
@[simp] theorem State.setStop_bgpal (s : State) (v : Bool) : (s.setStop v).bgpal = s.bgpal := rfl
@[simp] theorem State.setStop_obpal (s : State) (v : Bool) : (s.setStop v).obpal = s.obpal := rfl
@[simp] theorem State.setStop_wave (s : State) (v : Bool) : (s.setStop v).wave = s.wave := rfl
@[simp] theorem State.setStop_ppu (s : State) (v : Bool) : (s.setStop v).ppu = s.ppu := rfl
@[simp] theorem State.setStop_apu (s : State) (v : Bool) : (s.setStop v).apu = s.apu := rfl
@[simp] theorem State.setStop_cart (s : State) (v : Bool) : (s.setStop v).cart = s.cart := rfl
@[simp] theorem State.setStop_inputs (s : State) (v : Bool) : (s.setStop v).inputs = s.inputs := rfl

@[simp] theorem State.setStop_cpu_a (s : State) (v : Bool) : (s.setStop v).cpu.a = s.cpu.a := rfl
@[simp] theorem State.setStop_cpu_f (s : State) (v : Bool) : (s.setStop v).cpu.f = s.cpu.f := rfl
@[simp] theorem State.setStop_cpu_b (s : State) (v : Bool) : (s.setStop v).cpu.b = s.cpu.b := rfl
@[simp] theorem State.setStop_cpu_c (s : State) (v : Bool) : (s.setStop v).cpu.c = s.cpu.c := rfl
@[simp] theorem State.setStop_cpu_d (s : State) (v : Bool) : (s.setStop v).cpu.d = s.cpu.d := rfl
@[simp] theorem State.setStop_cpu_e (s : State) (v : Bool) : (s.setStop v).cpu.e = s.cpu.e := rfl
@[simp] theorem State.setStop_cpu_h (s : State) (v : Bool) : (s.setStop v).cpu.h = s.cpu.h := rfl
@[simp] theorem State.setStop_cpu_l (s : State) (v : Bool) : (s.setStop v).cpu.l = s.cpu.l := rfl
@[simp] theorem State.setStop_cpu_sp (s : State) (v : Bool) : (s.setStop v).cpu.sp = s.cpu.sp := rfl
@[simp] theorem State.setStop_cpu_pc (s : State) (v : Bool) : (s.setStop v).cpu.pc = s.cpu.pc := rfl
@[simp] theorem State.setStop_cpu_ime (s : State) (v : Bool) : (s.setStop v).cpu.ime = s.cpu.ime := rfl
@[simp] theorem State.setStop_cpu_imePending (s : State) (v : Bool) : (s.setStop v).cpu.imePending = s.cpu.imePending := rfl
@[simp] theorem State.setStop_cpu_halt (s : State) (v : Bool) : (s.setStop v).cpu.halt = s.cpu.halt := rfl
@[simp] theorem State.setStop_cpu_stop (s : State) (v : Bool) : (s.setStop v).cpu.stop = v := rfl
@[simp] theorem State.setStop_cpu_illegal (s : State) (v : Bool) : (s.setStop v).cpu.illegal = s.cpu.illegal := rfl

/-! ### setA -/

@[simp] theorem State.setA_cgb (s : State) (v : Byte) : (s.setA v).cgb = s.cgb := rfl
@[simp] theorem State.setA_params (s : State) (v : Byte) : (s.setA v).params = s.params := rfl
@[simp] theorem State.setA_irq (s : State) (v : Byte) : (s.setA v).irq = s.irq := rfl
@[simp] theorem State.setA_timer (s : State) (v : Byte) : (s.setA v).timer = s.timer := rfl
@[simp] theorem State.setA_joy (s : State) (v : Byte) : (s.setA v).joy = s.joy := rfl
@[simp] theorem State.setA_serial (s : State) (v : Byte) : (s.setA v).serial = s.serial := rfl
@[simp] theorem State.setA_speed (s : State) (v : Byte) : (s.setA v).speed = s.speed := rfl
@[simp] theorem State.setA_banks (s : State) (v : Byte) : (s.setA v).banks = s.banks := rfl
@[simp] theorem State.setA_dma (s : State) (v : Byte) : (s.setA v).dma = s.dma := rfl
@[simp] theorem State.setA_hdma (s : State) (v : Byte) : (s.setA v).hdma = s.hdma := rfl
@[simp] theorem State.setA_vram (s : State) (v : Byte) : (s.setA v).vram = s.vram := rfl
@[simp] theorem State.setA_wram (s : State) (v : Byte) : (s.setA v).wram = s.wram := rfl
@[simp] theorem State.setA_oam (s : State) (v : Byte) : (s.setA v).oam = s.oam := rfl
@[simp] theorem State.setA_hram (s : State) (v : Byte) : (s.setA v).hram = s.hram := rfl
@[simp] theorem State.setA_bgpal (s : State) (v : Byte) : (s.setA v).bgpal = s.bgpal := rfl
@[simp] theorem State.setA_obpal (s : State) (v : Byte) : (s.setA v).obpal = s.obpal := rfl
@[simp] theorem State.setA_wave (s : State) (v : Byte) : (s.setA v).wave = s.wave := rfl
@[simp] theorem State.setA_ppu (s : State) (v : Byte) : (s.setA v).ppu = s.ppu := rfl
@[simp] theorem State.setA_apu (s : State) (v : Byte) : (s.setA v).apu = s.apu := rfl
@[simp] theorem State.setA_cart (s : State) (v : Byte) : (s.setA v).cart = s.cart := rfl
@[simp] theorem State.setA_inputs (s : State) (v : Byte) : (s.setA v).inputs = s.inputs := rfl

@[simp] theorem State.setA_cpu_a (s : State) (v : Byte) : (s.setA v).cpu.a = v := rfl
@[simp] theorem State.setA_cpu_f (s : State) (v : Byte) : (s.setA v).cpu.f = s.cpu.f := rfl
@[simp] theorem State.setA_cpu_b (s : State) (v : Byte) : (s.setA v).cpu.b = s.cpu.b := rfl
@[simp] theorem State.setA_cpu_c (s : State) (v : Byte) : (s.setA v).cpu.c = s.cpu.c := rfl
@[simp] theorem State.setA_cpu_d (s : State) (v : Byte) : (s.setA v).cpu.d = s.cpu.d := rfl
@[simp] theorem State.setA_cpu_e (s : State) (v : Byte) : (s.setA v).cpu.e = s.cpu.e := rfl
@[simp] theorem State.setA_cpu_h (s : State) (v : Byte) : (s.setA v).cpu.h = s.cpu.h := rfl
@[simp] theorem State.setA_cpu_l (s : State) (v : Byte) : (s.setA v).cpu.l = s.cpu.l := rfl
@[simp] theorem State.setA_cpu_sp (s : State) (v : Byte) : (s.setA v).cpu.sp = s.cpu.sp := rfl
@[simp] theorem State.setA_cpu_pc (s : State) (v : Byte) : (s.setA v).cpu.pc = s.cpu.pc := rfl
@[simp] theorem State.setA_cpu_ime (s : State) (v : Byte) : (s.setA v).cpu.ime = s.cpu.ime := rfl
@[simp] theorem State.setA_cpu_imePending (s : State) (v : Byte) : (s.setA v).cpu.imePending = s.cpu.imePending := rfl
@[simp] theorem State.setA_cpu_halt (s : State) (v : Byte) : (s.setA v).cpu.halt = s.cpu.halt := rfl
@[simp] theorem State.setA_cpu_stop (s : State) (v : Byte) : (s.setA v).cpu.stop = s.cpu.stop := rfl
@[simp] theorem State.setA_cpu_illegal (s : State) (v : Byte) : (s.setA v).cpu.illegal = s.cpu.illegal := rfl

/-! ### setF -/

@[simp] theorem State.setF_cgb (s : State) (v : Flags) : (s.setF v).cgb = s.cgb := rfl
@[simp] theorem State.setF_params (s : State) (v : Flags) : (s.setF v).params = s.params := rfl
@[simp] theorem State.setF_irq (s : State) (v : Flags) : (s.setF v).irq = s.irq := rfl
@[simp] theorem State.setF_timer (s : State) (v : Flags) : (s.setF v).timer = s.timer := rfl
@[simp] theorem State.setF_joy (s : State) (v : Flags) : (s.setF v).joy = s.joy := rfl
@[simp] theorem State.setF_serial (s : State) (v : Flags) : (s.setF v).serial = s.serial := rfl
@[simp] theorem State.setF_speed (s : State) (v : Flags) : (s.setF v).speed = s.speed := rfl
@[simp] theorem State.setF_banks (s : State) (v : Flags) : (s.setF v).banks = s.banks := rfl
@[simp] theorem State.setF_dma (s : State) (v : Flags) : (s.setF v).dma = s.dma := rfl
@[simp] theorem State.setF_hdma (s : State) (v : Flags) : (s.setF v).hdma = s.hdma := rfl
@[simp] theorem State.setF_vram (s : State) (v : Flags) : (s.setF v).vram = s.vram := rfl
@[simp] theorem State.setF_wram (s : State) (v : Flags) : (s.setF v).wram = s.wram := rfl
@[simp] theorem State.setF_oam (s : State) (v : Flags) : (s.setF v).oam = s.oam := rfl
@[simp] theorem State.setF_hram (s : State) (v : Flags) : (s.setF v).hram = s.hram := rfl
@[simp] theorem State.setF_bgpal (s : State) (v : Flags) : (s.setF v).bgpal = s.bgpal := rfl
@[simp] theorem State.setF_obpal (s : State) (v : Flags) : (s.setF v).obpal = s.obpal := rfl
@[simp] theorem State.setF_wave (s : State) (v : Flags) : (s.setF v).wave = s.wave := rfl
@[simp] theorem State.setF_ppu (s : State) (v : Flags) : (s.setF v).ppu = s.ppu := rfl
@[simp] theorem State.setF_apu (s : State) (v : Flags) : (s.setF v).apu = s.apu := rfl
@[simp] theorem State.setF_cart (s : State) (v : Flags) : (s.setF v).cart = s.cart := rfl
@[simp] theorem State.setF_inputs (s : State) (v : Flags) : (s.setF v).inputs = s.inputs := rfl

@[simp] theorem State.setF_cpu_a (s : State) (v : Flags) : (s.setF v).cpu.a = s.cpu.a := rfl
@[simp] theorem State.setF_cpu_f (s : State) (v : Flags) : (s.setF v).cpu.f = v := rfl
@[simp] theorem State.setF_cpu_b (s : State) (v : Flags) : (s.setF v).cpu.b = s.cpu.b := rfl
@[simp] theorem State.setF_cpu_c (s : State) (v : Flags) : (s.setF v).cpu.c = s.cpu.c := rfl
@[simp] theorem State.setF_cpu_d (s : State) (v : Flags) : (s.setF v).cpu.d = s.cpu.d := rfl
@[simp] theorem State.setF_cpu_e (s : State) (v : Flags) : (s.setF v).cpu.e = s.cpu.e := rfl
@[simp] theorem State.setF_cpu_h (s : State) (v : Flags) : (s.setF v).cpu.h = s.cpu.h := rfl
@[simp] theorem State.setF_cpu_l (s : State) (v : Flags) : (s.setF v).cpu.l = s.cpu.l := rfl
@[simp] theorem State.setF_cpu_sp (s : State) (v : Flags) : (s.setF v).cpu.sp = s.cpu.sp := rfl
@[simp] theorem State.setF_cpu_pc (s : State) (v : Flags) : (s.setF v).cpu.pc = s.cpu.pc := rfl
@[simp] theorem State.setF_cpu_ime (s : State) (v : Flags) : (s.setF v).cpu.ime = s.cpu.ime := rfl
@[simp] theorem State.setF_cpu_imePending (s : State) (v : Flags) : (s.setF v).cpu.imePending = s.cpu.imePending := rfl
@[simp] theorem State.setF_cpu_halt (s : State) (v : Flags) : (s.setF v).cpu.halt = s.cpu.halt := rfl
@[simp] theorem State.setF_cpu_stop (s : State) (v : Flags) : (s.setF v).cpu.stop = s.cpu.stop := rfl
@[simp] theorem State.setF_cpu_illegal (s : State) (v : Flags) : (s.setF v).cpu.illegal = s.cpu.illegal := rfl

/-! ### set8 -/

@[simp] theorem State.set8_cgb (s : State) (r : R8) (v : Byte) : (s.set8 r v).cgb = s.cgb := rfl
@[simp] theorem State.set8_params (s : State) (r : R8) (v : Byte) : (s.set8 r v).params = s.params := rfl
@[simp] theorem State.set8_irq (s : State) (r : R8) (v : Byte) : (s.set8 r v).irq = s.irq := rfl
@[simp] theorem State.set8_timer (s : State) (r : R8) (v : Byte) : (s.set8 r v).timer = s.timer := rfl
@[simp] theorem State.set8_joy (s : State) (r : R8) (v : Byte) : (s.set8 r v).joy = s.joy := rfl
@[simp] theorem State.set8_serial (s : State) (r : R8) (v : Byte) : (s.set8 r v).serial = s.serial := rfl
@[simp] theorem State.set8_speed (s : State) (r : R8) (v : Byte) : (s.set8 r v).speed = s.speed := rfl
@[simp] theorem State.set8_banks (s : State) (r : R8) (v : Byte) : (s.set8 r v).banks = s.banks := rfl
@[simp] theorem State.set8_dma (s : State) (r : R8) (v : Byte) : (s.set8 r v).dma = s.dma := rfl
@[simp] theorem State.set8_hdma (s : State) (r : R8) (v : Byte) : (s.set8 r v).hdma = s.hdma := rfl
@[simp] theorem State.set8_vram (s : State) (r : R8) (v : Byte) : (s.set8 r v).vram = s.vram := rfl
@[simp] theorem State.set8_wram (s : State) (r : R8) (v : Byte) : (s.set8 r v).wram = s.wram := rfl
@[simp] theorem State.set8_oam (s : State) (r : R8) (v : Byte) : (s.set8 r v).oam = s.oam := rfl
@[simp] theorem State.set8_hram (s : State) (r : R8) (v : Byte) : (s.set8 r v).hram = s.hram := rfl
@[simp] theorem State.set8_bgpal (s : State) (r : R8) (v : Byte) : (s.set8 r v).bgpal = s.bgpal := rfl
@[simp] theorem State.set8_obpal (s : State) (r : R8) (v : Byte) : (s.set8 r v).obpal = s.obpal := rfl
@[simp] theorem State.set8_wave (s : State) (r : R8) (v : Byte) : (s.set8 r v).wave = s.wave := rfl
@[simp] theorem State.set8_ppu (s : State) (r : R8) (v : Byte) : (s.set8 r v).ppu = s.ppu := rfl
@[simp] theorem State.set8_apu (s : State) (r : R8) (v : Byte) : (s.set8 r v).apu = s.apu := rfl
@[simp] theorem State.set8_cart (s : State) (r : R8) (v : Byte) : (s.set8 r v).cart = s.cart := rfl
@[simp] theorem State.set8_inputs (s : State) (r : R8) (v : Byte) : (s.set8 r v).inputs = s.inputs := rfl

/-! ### set16 -/

@[simp] theorem State.set16_cgb (s : State) (r : R16) (v : Word) : (s.set16 r v).cgb = s.cgb := rfl
@[simp] theorem State.set16_params (s : State) (r : R16) (v : Word) : (s.set16 r v).params = s.params := rfl
@[simp] theorem State.set16_irq (s : State) (r : R16) (v : Word) : (s.set16 r v).irq = s.irq := rfl
@[simp] theorem State.set16_timer (s : State) (r : R16) (v : Word) : (s.set16 r v).timer = s.timer := rfl
@[simp] theorem State.set16_joy (s : State) (r : R16) (v : Word) : (s.set16 r v).joy = s.joy := rfl
@[simp] theorem State.set16_serial (s : State) (r : R16) (v : Word) : (s.set16 r v).serial = s.serial := rfl
@[simp] theorem State.set16_speed (s : State) (r : R16) (v : Word) : (s.set16 r v).speed = s.speed := rfl
@[simp] theorem State.set16_banks (s : State) (r : R16) (v : Word) : (s.set16 r v).banks = s.banks := rfl
@[simp] theorem State.set16_dma (s : State) (r : R16) (v : Word) : (s.set16 r v).dma = s.dma := rfl
@[simp] theorem State.set16_hdma (s : State) (r : R16) (v : Word) : (s.set16 r v).hdma = s.hdma := rfl
@[simp] theorem State.set16_vram (s : State) (r : R16) (v : Word) : (s.set16 r v).vram = s.vram := rfl
@[simp] theorem State.set16_wram (s : State) (r : R16) (v : Word) : (s.set16 r v).wram = s.wram := rfl
@[simp] theorem State.set16_oam (s : State) (r : R16) (v : Word) : (s.set16 r v).oam = s.oam := rfl
@[simp] theorem State.set16_hram (s : State) (r : R16) (v : Word) : (s.set16 r v).hram = s.hram := rfl
@[simp] theorem State.set16_bgpal (s : State) (r : R16) (v : Word) : (s.set16 r v).bgpal = s.bgpal := rfl
@[simp] theorem State.set16_obpal (s : State) (r : R16) (v : Word) : (s.set16 r v).obpal = s.obpal := rfl
@[simp] theorem State.set16_wave (s : State) (r : R16) (v : Word) : (s.set16 r v).wave = s.wave := rfl
@[simp] theorem State.set16_ppu (s : State) (r : R16) (v : Word) : (s.set16 r v).ppu = s.ppu := rfl
@[simp] theorem State.set16_apu (s : State) (r : R16) (v : Word) : (s.set16 r v).apu = s.apu := rfl
@[simp] theorem State.set16_cart (s : State) (r : R16) (v : Word) : (s.set16 r v).cart = s.cart := rfl
@[simp] theorem State.set16_inputs (s : State) (r : R16) (v : Word) : (s.set16 r v).inputs = s.inputs := rfl

/-! ### setStk -/

@[simp] theorem State.setStk_cgb (s : State) (r : R16Stk) (v : Word) : (s.setStk r v).cgb = s.cgb := rfl
@[simp] theorem State.setStk_params (s : State) (r : R16Stk) (v : Word) : (s.setStk r v).params = s.params := rfl
@[simp] theorem State.setStk_irq (s : State) (r : R16Stk) (v : Word) : (s.setStk r v).irq = s.irq := rfl
@[simp] theorem State.setStk_timer (s : State) (r : R16Stk) (v : Word) : (s.setStk r v).timer = s.timer := rfl
@[simp] theorem State.setStk_joy (s : State) (r : R16Stk) (v : Word) : (s.setStk r v).joy = s.joy := rfl
@[simp] theorem State.setStk_serial (s : State) (r : R16Stk) (v : Word) : (s.setStk r v).serial = s.serial := rfl
@[simp] theorem State.setStk_speed (s : State) (r : R16Stk) (v : Word) : (s.setStk r v).speed = s.speed := rfl
@[simp] theorem State.setStk_banks (s : State) (r : R16Stk) (v : Word) : (s.setStk r v).banks = s.banks := rfl
@[simp] theorem State.setStk_dma (s : State) (r : R16Stk) (v : Word) : (s.setStk r v).dma = s.dma := rfl
@[simp] theorem State.setStk_hdma (s : State) (r : R16Stk) (v : Word) : (s.setStk r v).hdma = s.hdma := rfl
@[simp] theorem State.setStk_vram (s : State) (r : R16Stk) (v : Word) : (s.setStk r v).vram = s.vram := rfl
@[simp] theorem State.setStk_wram (s : State) (r : R16Stk) (v : Word) : (s.setStk r v).wram = s.wram := rfl
@[simp] theorem State.setStk_oam (s : State) (r : R16Stk) (v : Word) : (s.setStk r v).oam = s.oam := rfl
@[simp] theorem State.setStk_hram (s : State) (r : R16Stk) (v : Word) : (s.setStk r v).hram = s.hram := rfl
@[simp] theorem State.setStk_bgpal (s : State) (r : R16Stk) (v : Word) : (s.setStk r v).bgpal = s.bgpal := rfl
@[simp] theorem State.setStk_obpal (s : State) (r : R16Stk) (v : Word) : (s.setStk r v).obpal = s.obpal := rfl
@[simp] theorem State.setStk_wave (s : State) (r : R16Stk) (v : Word) : (s.setStk r v).wave = s.wave := rfl
@[simp] theorem State.setStk_ppu (s : State) (r : R16Stk) (v : Word) : (s.setStk r v).ppu = s.ppu := rfl
@[simp] theorem State.setStk_apu (s : State) (r : R16Stk) (v : Word) : (s.setStk r v).apu = s.apu := rfl
@[simp] theorem State.setStk_cart (s : State) (r : R16Stk) (v : Word) : (s.setStk r v).cart = s.cart := rfl
@[simp] theorem State.setStk_inputs (s : State) (r : R16Stk) (v : Word) : (s.setStk r v).inputs = s.inputs := rfl

/-! ### setHl -/

@[simp] theorem State.setHl_cgb (s : State) (v : Word) : (s.setHl v).cgb = s.cgb := rfl
@[simp] theorem State.setHl_params (s : State) (v : Word) : (s.setHl v).params = s.params := rfl
@[simp] theorem State.setHl_irq (s : State) (v : Word) : (s.setHl v).irq = s.irq := rfl
@[simp] theorem State.setHl_timer (s : State) (v : Word) : (s.setHl v).timer = s.timer := rfl
@[simp] theorem State.setHl_joy (s : State) (v : Word) : (s.setHl v).joy = s.joy := rfl
@[simp] theorem State.setHl_serial (s : State) (v : Word) : (s.setHl v).serial = s.serial := rfl
@[simp] theorem State.setHl_speed (s : State) (v : Word) : (s.setHl v).speed = s.speed := rfl
@[simp] theorem State.setHl_banks (s : State) (v : Word) : (s.setHl v).banks = s.banks := rfl
@[simp] theorem State.setHl_dma (s : State) (v : Word) : (s.setHl v).dma = s.dma := rfl
@[simp] theorem State.setHl_hdma (s : State) (v : Word) : (s.setHl v).hdma = s.hdma := rfl
@[simp] theorem State.setHl_vram (s : State) (v : Word) : (s.setHl v).vram = s.vram := rfl
@[simp] theorem State.setHl_wram (s : State) (v : Word) : (s.setHl v).wram = s.wram := rfl
@[simp] theorem State.setHl_oam (s : State) (v : Word) : (s.setHl v).oam = s.oam := rfl
@[simp] theorem State.setHl_hram (s : State) (v : Word) : (s.setHl v).hram = s.hram := rfl
@[simp] theorem State.setHl_bgpal (s : State) (v : Word) : (s.setHl v).bgpal = s.bgpal := rfl
@[simp] theorem State.setHl_obpal (s : State) (v : Word) : (s.setHl v).obpal = s.obpal := rfl
@[simp] theorem State.setHl_wave (s : State) (v : Word) : (s.setHl v).wave = s.wave := rfl
@[simp] theorem State.setHl_ppu (s : State) (v : Word) : (s.setHl v).ppu = s.ppu := rfl
@[simp] theorem State.setHl_apu (s : State) (v : Word) : (s.setHl v).apu = s.apu := rfl
@[simp] theorem State.setHl_cart (s : State) (v : Word) : (s.setHl v).cart = s.cart := rfl
@[simp] theorem State.setHl_inputs (s : State) (v : Word) : (s.setHl v).inputs = s.inputs := rfl

@[simp] theorem State.set8_cpu_f (s : State) (r : R8) (v : Byte) : (s.set8 r v).cpu.f = s.cpu.f := by cases r <;> rfl
@[simp] theorem State.set8_cpu_sp (s : State) (r : R8) (v : Byte) : (s.set8 r v).cpu.sp = s.cpu.sp := by cases r <;> rfl
@[simp] theorem State.set8_cpu_pc (s : State) (r : R8) (v : Byte) : (s.set8 r v).cpu.pc = s.cpu.pc := by cases r <;> rfl
@[simp] theorem State.set8_cpu_ime (s : State) (r : R8) (v : Byte) : (s.set8 r v).cpu.ime = s.cpu.ime := by cases r <;> rfl
@[simp] theorem State.set8_cpu_imePending (s : State) (r : R8) (v : Byte) : (s.set8 r v).cpu.imePending = s.cpu.imePending := by cases r <;> rfl
@[simp] theorem State.set8_cpu_halt (s : State) (r : R8) (v : Byte) : (s.set8 r v).cpu.halt = s.cpu.halt := by cases r <;> rfl
@[simp] theorem State.set8_cpu_stop (s : State) (r : R8) (v : Byte) : (s.set8 r v).cpu.stop = s.cpu.stop := by cases r <;> rfl
@[simp] theorem State.set8_cpu_illegal (s : State) (r : R8) (v : Byte) : (s.set8 r v).cpu.illegal = s.cpu.illegal := by cases r <;> rfl
@[simp] theorem State.set16_cpu_a (s : State) (r : R16) (v : Word) : (s.set16 r v).cpu.a = s.cpu.a := by cases r <;> rfl
@[simp] theorem State.set16_cpu_f (s : State) (r : R16) (v : Word) : (s.set16 r v).cpu.f = s.cpu.f := by cases r <;> rfl
@[simp] theorem State.set16_cpu_pc (s : State) (r : R16) (v : Word) : (s.set16 r v).cpu.pc = s.cpu.pc := by cases r <;> rfl
@[simp] theorem State.set16_cpu_ime (s : State) (r : R16) (v : Word) : (s.set16 r v).cpu.ime = s.cpu.ime := by cases r <;> rfl
@[simp] theorem State.set16_cpu_imePending (s : State) (r : R16) (v : Word) : (s.set16 r v).cpu.imePending = s.cpu.imePending := by cases r <;> rfl
@[simp] theorem State.set16_cpu_halt (s : State) (r : R16) (v : Word) : (s.set16 r v).cpu.halt = s.cpu.halt := by cases r <;> rfl
@[simp] theorem State.set16_cpu_stop (s : State) (r : R16) (v : Word) : (s.set16 r v).cpu.stop = s.cpu.stop := by cases r <;> rfl
@[simp] theorem State.set16_cpu_illegal (s : State) (r : R16) (v : Word) : (s.set16 r v).cpu.illegal = s.cpu.illegal := by cases r <;> rfl
@[simp] theorem State.setStk_cpu_sp (s : State) (r : R16Stk) (v : Word) : (s.setStk r v).cpu.sp = s.cpu.sp := by cases r <;> rfl
@[simp] theorem State.setStk_cpu_pc (s : State) (r : R16Stk) (v : Word) : (s.setStk r v).cpu.pc = s.cpu.pc := by cases r <;> rfl
@[simp] theorem State.setStk_cpu_ime (s : State) (r : R16Stk) (v : Word) : (s.setStk r v).cpu.ime = s.cpu.ime := by cases r <;> rfl
@[simp] theorem State.setStk_cpu_imePending (s : State) (r : R16Stk) (v : Word) : (s.setStk r v).cpu.imePending = s.cpu.imePending := by cases r <;> rfl
@[simp] theorem State.setStk_cpu_halt (s : State) (r : R16Stk) (v : Word) : (s.setStk r v).cpu.halt = s.cpu.halt := by cases r <;> rfl
@[simp] theorem State.setStk_cpu_stop (s : State) (r : R16Stk) (v : Word) : (s.setStk r v).cpu.stop = s.cpu.stop := by cases r <;> rfl
@[simp] theorem State.setStk_cpu_illegal (s : State) (r : R16Stk) (v : Word) : (s.setStk r v).cpu.illegal = s.cpu.illegal := by cases r <;> rfl
@[simp] theorem State.setHl_cpu_a (s : State) (v : Word) : (s.setHl v).cpu.a = s.cpu.a := rfl
@[simp] theorem State.setHl_cpu_f (s : State) (v : Word) : (s.setHl v).cpu.f = s.cpu.f := rfl
@[simp] theorem State.setHl_cpu_b (s : State) (v : Word) : (s.setHl v).cpu.b = s.cpu.b := rfl
@[simp] theorem State.setHl_cpu_c (s : State) (v : Word) : (s.setHl v).cpu.c = s.cpu.c := rfl
@[simp] theorem State.setHl_cpu_d (s : State) (v : Word) : (s.setHl v).cpu.d = s.cpu.d := rfl
@[simp] theorem State.setHl_cpu_e (s : State) (v : Word) : (s.setHl v).cpu.e = s.cpu.e := rfl
@[simp] theorem State.setHl_cpu_sp (s : State) (v : Word) : (s.setHl v).cpu.sp = s.cpu.sp := rfl
@[simp] theorem State.setHl_cpu_pc (s : State) (v : Word) : (s.setHl v).cpu.pc = s.cpu.pc := rfl
@[simp] theorem State.setHl_cpu_ime (s : State) (v : Word) : (s.setHl v).cpu.ime = s.cpu.ime := rfl
@[simp] theorem State.setHl_cpu_imePending (s : State) (v : Word) : (s.setHl v).cpu.imePending = s.cpu.imePending := rfl
@[simp] theorem State.setHl_cpu_halt (s : State) (v : Word) : (s.setHl v).cpu.halt = s.cpu.halt := rfl
@[simp] theorem State.setHl_cpu_stop (s : State) (v : Word) : (s.setHl v).cpu.stop = s.cpu.stop := rfl
@[simp] theorem State.setHl_cpu_illegal (s : State) (v : Word) : (s.setHl v).cpu.illegal = s.cpu.illegal := rfl

/-! ### Register access -/

@[simp] theorem Cpu.get8_set8 (c : Cpu) (r : R8) (v : Byte) : (c.set8 r v).get8 r = v := by cases r <;> rfl

theorem Cpu.get8_set8_of_ne (c : Cpu) (r q : R8) (v : Byte) (h : q ≠ r) : (c.set8 r v).get8 q = c.get8 q := by
  cases r <;> cases q <;> first | rfl | exact absurd rfl h

theorem getLsbD_pair (a b : Byte) (i : Nat) : (pair a b).getLsbD i = if i < 8 then b.getLsbD i else a.getLsbD (i - 8) := by
  have h := BitVec.getLsbD_append (x := a) (y := b) (i := i)
  simpa [pair] using h

@[simp] theorem Cpu.get16_set16 (c : Cpu) (r : R16) (v : Word) : (c.set16 r v).get16 r = v := by
  cases r <;> first | exact pair_hi_lo v | rfl

@[simp] theorem Cpu.hl_setHl (c : Cpu) (v : Word) : (c.setHl v).hl = v := pair_hi_lo v

@[simp] theorem Cpu.setStk_bc (c : Cpu) (v : Word) : (c.setStk .BC v).bc = v := pair_hi_lo v
@[simp] theorem Cpu.setStk_de (c : Cpu) (v : Word) : (c.setStk .DE v).de = v := pair_hi_lo v
@[simp] theorem Cpu.setStk_hl (c : Cpu) (v : Word) : (c.setStk .HL v).hl = v := pair_hi_lo v

end Sys2Proof.Machine
end

