-- ==== Sys2Proof/Laws/Bus.lean ====
section
/-! SUPPORT. What time, a CPU access and the transfer engines leave alone, field by field. -/
namespace Sys2Proof.Machine

/-! ### One T-cycle, one dot, one M-cycle -/

theorem tickFast_cpu (k : Nat) (s : State) : (tickFast k s).cpu = s.cpu := by unfold tickFast; split <;> rfl
theorem tickFast_cgb (k : Nat) (s : State) : (tickFast k s).cgb = s.cgb := by unfold tickFast; split <;> rfl
theorem tickFast_params (k : Nat) (s : State) : (tickFast k s).params = s.params := by unfold tickFast; split <;> rfl
theorem tickFast_serial (k : Nat) (s : State) : (tickFast k s).serial = s.serial := by unfold tickFast; split <;> rfl
theorem tickFast_speed (k : Nat) (s : State) : (tickFast k s).speed = s.speed := by unfold tickFast; split <;> rfl
theorem tickFast_banks (k : Nat) (s : State) : (tickFast k s).banks = s.banks := by unfold tickFast; split <;> rfl
theorem tickFast_hdma (k : Nat) (s : State) : (tickFast k s).hdma = s.hdma := by unfold tickFast; split <;> rfl
theorem tickFast_vram (k : Nat) (s : State) : (tickFast k s).vram = s.vram := by unfold tickFast; split <;> rfl
theorem tickFast_wram (k : Nat) (s : State) : (tickFast k s).wram = s.wram := by unfold tickFast; split <;> rfl
theorem tickFast_hram (k : Nat) (s : State) : (tickFast k s).hram = s.hram := by unfold tickFast; split <;> rfl
theorem tickFast_bgpal (k : Nat) (s : State) : (tickFast k s).bgpal = s.bgpal := by unfold tickFast; split <;> rfl
theorem tickFast_obpal (k : Nat) (s : State) : (tickFast k s).obpal = s.obpal := by unfold tickFast; split <;> rfl
theorem tickFast_wave (k : Nat) (s : State) : (tickFast k s).wave = s.wave := by unfold tickFast; split <;> rfl
theorem tickFast_ppu (k : Nat) (s : State) : (tickFast k s).ppu = s.ppu := by unfold tickFast; split <;> rfl
theorem tickFast_apu (k : Nat) (s : State) : (tickFast k s).apu = s.apu := by unfold tickFast; split <;> rfl
theorem tickFast_cart (k : Nat) (s : State) : (tickFast k s).cart = s.cart := by unfold tickFast; split <;> rfl

theorem tickSlow_cpu (s : State) : (tickSlow s).cpu = s.cpu := rfl
theorem tickSlow_cgb (s : State) : (tickSlow s).cgb = s.cgb := rfl
theorem tickSlow_params (s : State) : (tickSlow s).params = s.params := rfl
theorem tickSlow_timer (s : State) : (tickSlow s).timer = s.timer := rfl
theorem tickSlow_joy (s : State) : (tickSlow s).joy = s.joy := rfl
theorem tickSlow_serial (s : State) : (tickSlow s).serial = s.serial := rfl
theorem tickSlow_speed (s : State) : (tickSlow s).speed = s.speed := rfl
theorem tickSlow_banks (s : State) : (tickSlow s).banks = s.banks := rfl
theorem tickSlow_dma (s : State) : (tickSlow s).dma = s.dma := rfl
theorem tickSlow_vram (s : State) : (tickSlow s).vram = s.vram := rfl
theorem tickSlow_wram (s : State) : (tickSlow s).wram = s.wram := rfl
theorem tickSlow_oam (s : State) : (tickSlow s).oam = s.oam := rfl
theorem tickSlow_hram (s : State) : (tickSlow s).hram = s.hram := rfl
theorem tickSlow_bgpal (s : State) : (tickSlow s).bgpal = s.bgpal := rfl
theorem tickSlow_obpal (s : State) : (tickSlow s).obpal = s.obpal := rfl
theorem tickSlow_wave (s : State) : (tickSlow s).wave = s.wave := rfl
theorem tickSlow_cart (s : State) : (tickSlow s).cart = s.cart := rfl

@[simp] theorem tickT_cpu (k : Nat) (s : State) : (tickT k s).cpu = s.cpu := by
  unfold tickT; split <;> simp only [tickSlow_cpu, tickFast_cpu]
@[simp] theorem tickT_cgb (k : Nat) (s : State) : (tickT k s).cgb = s.cgb := by
  unfold tickT; split <;> simp only [tickSlow_cgb, tickFast_cgb]
@[simp] theorem tickT_params (k : Nat) (s : State) : (tickT k s).params = s.params := by
  unfold tickT; split <;> simp only [tickSlow_params, tickFast_params]
@[simp] theorem tickT_serial (k : Nat) (s : State) : (tickT k s).serial = s.serial := by
  unfold tickT; split <;> simp only [tickSlow_serial, tickFast_serial]
@[simp] theorem tickT_speed (k : Nat) (s : State) : (tickT k s).speed = s.speed := by
  unfold tickT; split <;> simp only [tickSlow_speed, tickFast_speed]
@[simp] theorem tickT_banks (k : Nat) (s : State) : (tickT k s).banks = s.banks := by
  unfold tickT; split <;> simp only [tickSlow_banks, tickFast_banks]
@[simp] theorem tickT_vram (k : Nat) (s : State) : (tickT k s).vram = s.vram := by
  unfold tickT; split <;> simp only [tickSlow_vram, tickFast_vram]
@[simp] theorem tickT_wram (k : Nat) (s : State) : (tickT k s).wram = s.wram := by
  unfold tickT; split <;> simp only [tickSlow_wram, tickFast_wram]
@[simp] theorem tickT_hram (k : Nat) (s : State) : (tickT k s).hram = s.hram := by
  unfold tickT; split <;> simp only [tickSlow_hram, tickFast_hram]
@[simp] theorem tickT_bgpal (k : Nat) (s : State) : (tickT k s).bgpal = s.bgpal := by
  unfold tickT; split <;> simp only [tickSlow_bgpal, tickFast_bgpal]
@[simp] theorem tickT_obpal (k : Nat) (s : State) : (tickT k s).obpal = s.obpal := by
  unfold tickT; split <;> simp only [tickSlow_obpal, tickFast_obpal]
@[simp] theorem tickT_wave (k : Nat) (s : State) : (tickT k s).wave = s.wave := by
  unfold tickT; split <;> simp only [tickSlow_wave, tickFast_wave]
@[simp] theorem tickT_cart (k : Nat) (s : State) : (tickT k s).cart = s.cart := by
  unfold tickT; split <;> simp only [tickSlow_cart, tickFast_cart]

@[simp] theorem advanceM_cpu (s : State) : (advanceM s).cpu = s.cpu := by simp only [advanceM, tickT_cpu]
@[simp] theorem advanceM_cgb (s : State) : (advanceM s).cgb = s.cgb := by simp only [advanceM, tickT_cgb]
@[simp] theorem advanceM_params (s : State) : (advanceM s).params = s.params := by simp only [advanceM, tickT_params]
@[simp] theorem advanceM_serial (s : State) : (advanceM s).serial = s.serial := by simp only [advanceM, tickT_serial]
@[simp] theorem advanceM_speed (s : State) : (advanceM s).speed = s.speed := by simp only [advanceM, tickT_speed]
@[simp] theorem advanceM_banks (s : State) : (advanceM s).banks = s.banks := by simp only [advanceM, tickT_banks]
@[simp] theorem advanceM_vram (s : State) : (advanceM s).vram = s.vram := by simp only [advanceM, tickT_vram]
@[simp] theorem advanceM_wram (s : State) : (advanceM s).wram = s.wram := by simp only [advanceM, tickT_wram]
@[simp] theorem advanceM_hram (s : State) : (advanceM s).hram = s.hram := by simp only [advanceM, tickT_hram]
@[simp] theorem advanceM_bgpal (s : State) : (advanceM s).bgpal = s.bgpal := by simp only [advanceM, tickT_bgpal]
@[simp] theorem advanceM_obpal (s : State) : (advanceM s).obpal = s.obpal := by simp only [advanceM, tickT_obpal]
@[simp] theorem advanceM_wave (s : State) : (advanceM s).wave = s.wave := by simp only [advanceM, tickT_wave]
@[simp] theorem advanceM_cart (s : State) : (advanceM s).cart = s.cart := by simp only [advanceM, tickT_cart]

/-! ### CPU accesses -/

theorem ioWriteReg_cpu (s : State) (r : IoReg) (v : Byte) : (ioWriteReg s r v).cpu = s.cpu := by
  cases r <;> rfl
theorem ioWrite_cpu (s : State) (lo : Nat) (v : Byte) : (ioWrite s lo v).cpu = s.cpu := by
  unfold ioWrite; split
  · exact ioWriteReg_cpu ..
  · rfl
@[simp] theorem busWrite_cpu (s : State) (a : Word) (v : Byte) : (busWrite s a v).cpu = s.cpu := by
  unfold busWrite busWriteRegion; split <;> first | rfl | exact ioWrite_cpu ..
@[simp] theorem memWrite_cpu (s : State) (a : Word) (v : Byte) : (memWrite s a v).cpu = s.cpu := by
  simp only [memWrite, advanceM_cpu, busWrite_cpu]
theorem ioWriteReg_cgb (s : State) (r : IoReg) (v : Byte) : (ioWriteReg s r v).cgb = s.cgb := by
  cases r <;> rfl
theorem ioWrite_cgb (s : State) (lo : Nat) (v : Byte) : (ioWrite s lo v).cgb = s.cgb := by
  unfold ioWrite; split
  · exact ioWriteReg_cgb ..
  · rfl
@[simp] theorem busWrite_cgb (s : State) (a : Word) (v : Byte) : (busWrite s a v).cgb = s.cgb := by
  unfold busWrite busWriteRegion; split <;> first | rfl | exact ioWrite_cgb ..
@[simp] theorem memWrite_cgb (s : State) (a : Word) (v : Byte) : (memWrite s a v).cgb = s.cgb := by
  simp only [memWrite, advanceM_cgb, busWrite_cgb]
theorem ioWriteReg_params (s : State) (r : IoReg) (v : Byte) : (ioWriteReg s r v).params = s.params := by
  cases r <;> rfl
theorem ioWrite_params (s : State) (lo : Nat) (v : Byte) : (ioWrite s lo v).params = s.params := by
  unfold ioWrite; split
  · exact ioWriteReg_params ..
  · rfl
@[simp] theorem busWrite_params (s : State) (a : Word) (v : Byte) : (busWrite s a v).params = s.params := by
  unfold busWrite busWriteRegion; split <;> first | rfl | exact ioWrite_params ..
@[simp] theorem memWrite_params (s : State) (a : Word) (v : Byte) : (memWrite s a v).params = s.params := by
  simp only [memWrite, advanceM_params, busWrite_params]

@[simp] theorem memRead_cpu (s : State) (a : Word) : (memRead s a).2.cpu = s.cpu := advanceM_cpu s
@[simp] theorem memRead_cgb (s : State) (a : Word) : (memRead s a).2.cgb = s.cgb := advanceM_cgb s
@[simp] theorem memRead_params (s : State) (a : Word) : (memRead s a).2.params = s.params := advanceM_params s
@[simp] theorem memRead_serial (s : State) (a : Word) : (memRead s a).2.serial = s.serial := advanceM_serial s
@[simp] theorem memRead_speed (s : State) (a : Word) : (memRead s a).2.speed = s.speed := advanceM_speed s
@[simp] theorem memRead_banks (s : State) (a : Word) : (memRead s a).2.banks = s.banks := advanceM_banks s
@[simp] theorem memRead_vram (s : State) (a : Word) : (memRead s a).2.vram = s.vram := advanceM_vram s
@[simp] theorem memRead_wram (s : State) (a : Word) : (memRead s a).2.wram = s.wram := advanceM_wram s
@[simp] theorem memRead_hram (s : State) (a : Word) : (memRead s a).2.hram = s.hram := advanceM_hram s
@[simp] theorem memRead_bgpal (s : State) (a : Word) : (memRead s a).2.bgpal = s.bgpal := advanceM_bgpal s
@[simp] theorem memRead_obpal (s : State) (a : Word) : (memRead s a).2.obpal = s.obpal := advanceM_obpal s
@[simp] theorem memRead_wave (s : State) (a : Word) : (memRead s a).2.wave = s.wave := advanceM_wave s
@[simp] theorem memRead_cart (s : State) (a : Word) : (memRead s a).2.cart = s.cart := advanceM_cart s

@[simp] theorem idleM_cpu (s : State) : (idleM s).cpu = s.cpu := advanceM_cpu s
@[simp] theorem idleM_cgb (s : State) : (idleM s).cgb = s.cgb := advanceM_cgb s
@[simp] theorem idleM_params (s : State) : (idleM s).params = s.params := advanceM_params s
@[simp] theorem idleM_serial (s : State) : (idleM s).serial = s.serial := advanceM_serial s
@[simp] theorem idleM_speed (s : State) : (idleM s).speed = s.speed := advanceM_speed s
@[simp] theorem idleM_banks (s : State) : (idleM s).banks = s.banks := advanceM_banks s
@[simp] theorem idleM_vram (s : State) : (idleM s).vram = s.vram := advanceM_vram s
@[simp] theorem idleM_wram (s : State) : (idleM s).wram = s.wram := advanceM_wram s
@[simp] theorem idleM_hram (s : State) : (idleM s).hram = s.hram := advanceM_hram s
@[simp] theorem idleM_bgpal (s : State) : (idleM s).bgpal = s.bgpal := advanceM_bgpal s
@[simp] theorem idleM_obpal (s : State) : (idleM s).obpal = s.obpal := advanceM_obpal s
@[simp] theorem idleM_wave (s : State) : (idleM s).wave = s.wave := advanceM_wave s
@[simp] theorem idleM_cart (s : State) : (idleM s).cart = s.cart := advanceM_cart s

@[simp] theorem memRead_val (s : State) (a : Word) : (memRead s a).1 = busRead s a := rfl

/-! ### The stack and the fetch -/

@[simp] theorem fetch8_cgb (s : State) : (fetch8 s).2.cgb = s.cgb := advanceM_cgb s
@[simp] theorem fetch8_params (s : State) : (fetch8 s).2.params = s.params := advanceM_params s
@[simp] theorem fetch8_serial (s : State) : (fetch8 s).2.serial = s.serial := advanceM_serial s
@[simp] theorem fetch8_speed (s : State) : (fetch8 s).2.speed = s.speed := advanceM_speed s
@[simp] theorem fetch8_banks (s : State) : (fetch8 s).2.banks = s.banks := advanceM_banks s
@[simp] theorem fetch8_vram (s : State) : (fetch8 s).2.vram = s.vram := advanceM_vram s
@[simp] theorem fetch8_wram (s : State) : (fetch8 s).2.wram = s.wram := advanceM_wram s
@[simp] theorem fetch8_hram (s : State) : (fetch8 s).2.hram = s.hram := advanceM_hram s
@[simp] theorem fetch8_bgpal (s : State) : (fetch8 s).2.bgpal = s.bgpal := advanceM_bgpal s
@[simp] theorem fetch8_obpal (s : State) : (fetch8 s).2.obpal = s.obpal := advanceM_obpal s
@[simp] theorem fetch8_wave (s : State) : (fetch8 s).2.wave = s.wave := advanceM_wave s
@[simp] theorem fetch8_cart (s : State) : (fetch8 s).2.cart = s.cart := advanceM_cart s
@[simp] theorem fetch8_cpu (s : State) : (fetch8 s).2.cpu = { s.cpu with pc := s.cpu.pc + 1#16 } := by
  simp only [fetch8, State.setPc, memRead_cpu]

@[simp] theorem fetch8_val (s : State) : (fetch8 s).1 = busRead s s.cpu.pc := rfl

@[simp] theorem pop16_cgb (s : State) : (pop16 s).2.cgb = s.cgb := by simp [pop16]
@[simp] theorem pop16_params (s : State) : (pop16 s).2.params = s.params := by simp [pop16]
@[simp] theorem pop16_serial (s : State) : (pop16 s).2.serial = s.serial := by simp [pop16]
@[simp] theorem pop16_speed (s : State) : (pop16 s).2.speed = s.speed := by simp [pop16]
@[simp] theorem pop16_banks (s : State) : (pop16 s).2.banks = s.banks := by simp [pop16]
@[simp] theorem pop16_vram (s : State) : (pop16 s).2.vram = s.vram := by simp [pop16]
@[simp] theorem pop16_wram (s : State) : (pop16 s).2.wram = s.wram := by simp [pop16]
@[simp] theorem pop16_hram (s : State) : (pop16 s).2.hram = s.hram := by simp [pop16]
@[simp] theorem pop16_bgpal (s : State) : (pop16 s).2.bgpal = s.bgpal := by simp [pop16]
@[simp] theorem pop16_obpal (s : State) : (pop16 s).2.obpal = s.obpal := by simp [pop16]
@[simp] theorem pop16_wave (s : State) : (pop16 s).2.wave = s.wave := by simp [pop16]
@[simp] theorem pop16_cart (s : State) : (pop16 s).2.cart = s.cart := by simp [pop16]
@[simp] theorem pop16_cpu (s : State) : (pop16 s).2.cpu = { s.cpu with sp := s.cpu.sp + 2#16 } := by
  simp only [pop16, State.setSp, memRead_cpu]
  rw [BitVec.add_assoc]; rfl

@[simp] theorem push16_cgb (s : State) (v : Word) : (push16 s v).cgb = s.cgb := by simp [push16]
@[simp] theorem push16_params (s : State) (v : Word) : (push16 s v).params = s.params := by simp [push16]
@[simp] theorem push16_cpu (s : State) (v : Word) : (push16 s v).cpu = { s.cpu with sp := s.cpu.sp - 2#16 } := by
  simp only [push16, State.setSp, memWrite_cpu]
  rw [BitVec.sub_sub]; rfl

end Sys2Proof.Machine
end

