-- ==== Sys2Proof/Laws/Store.lean ====
section
/-! SUPPORT. Storage arrays: a read after a write, and that every write keeps the canonical form. -/
namespace Sys2Proof.Machine

variable {w : Nat}

@[simp] theorem Store.read_nil (a : Nat) : Store.read ([] : Store w) a = 0#w := rfl

@[simp] theorem Store.wf_nil : Store.wf ([] : Store w) := ⟨List.Pairwise.nil, by simp⟩

theorem Store.wf_cons {k : Nat} {x : BitVec w} {m : Store w} :
    Store.wf ((k, x) :: m) ↔ (∀ p ∈ m, k < p.1) ∧ x ≠ Store.unlisted ∧ Store.wf m := by
  simp only [Store.wf, List.pairwise_cons, List.forall_mem_cons]; tauto

/-- Below every listed offset there is nothing but the value of an unlisted offset. -/
theorem Store.read_below {m : Store w} {a : Nat} (h : ∀ p ∈ m, a < p.1) : m.read a = Store.unlisted := by
  cases m with
  | nil => rfl
  | cons p m =>
    have : a < p.1 := h p (by simp)
    simp [Store.read, this, Nat.ne_of_lt this]

theorem Store.read_put_same {m : Store w} {a : Nat} (v : BitVec w) (h : ∀ p ∈ m, a < p.1) :
    (Store.put a v m).read a = v := by
  unfold Store.put; split
  · rw [Store.read_below h]; exact Eq.symm ‹_›
  · simp [Store.read]

theorem Store.read_put_of_gt {m : Store w} {a b : Nat} (v : BitVec w) (h : ∀ p ∈ m, a < p.1) (hb : b < a) :
    (Store.put a v m).read b = m.read b := by
  have hm : m.read b = Store.unlisted := Store.read_below fun p hp => Nat.lt_trans hb (h p hp)
  unfold Store.put; split
  · rfl
  · simp [Store.read, Nat.ne_of_lt hb, hb, hm]

theorem Store.read_put_of_lt {m : Store w} {a b : Nat} (v : BitVec w) (hb : a < b) :
    (Store.put a v m).read b = m.read b := by
  unfold Store.put; split
  · rfl
  · simp [Store.read, Nat.ne_of_gt hb, Nat.not_lt.2 (Nat.le_of_lt hb)]

theorem Store.wf_put {m : Store w} {a : Nat} (v : BitVec w) (h : ∀ p ∈ m, a < p.1) (hm : Store.wf m) :
    Store.wf (Store.put a v m) := by
  unfold Store.put; split
  · exact hm
  · exact Store.wf_cons.2 ⟨h, ‹_›, hm⟩

theorem Store.lt_of_mem_put {m : Store w} {a k : Nat} {v : BitVec w} (h : ∀ p ∈ m, k < p.1) (ha : k < a) :
    ∀ p ∈ Store.put a v m, k < p.1 := by
  unfold Store.put; split
  · exact h
  · intro p hp
    rcases List.mem_cons.1 hp with rfl | hp
    · exact ha
    · exact h p hp

theorem Store.lt_of_mem_write {m : Store w} {a k : Nat} {v : BitVec w} (h : ∀ p ∈ m, k < p.1) (ha : k < a) :
    ∀ p ∈ m.write a v, k < p.1 := by
  induction m with
  | nil => exact Store.lt_of_mem_put (by simp) ha
  | cons q m ih =>
    obtain ⟨j, x⟩ := q
    have hj : k < j := h (j, x) (by simp)
    have hm : ∀ p ∈ m, k < p.1 := fun p hp => h p (by simp [hp])
    simp only [Store.write]
    split
    · exact Store.lt_of_mem_put h ha
    · split
      · exact Store.lt_of_mem_put hm ha
      · intro p hp
        rcases List.mem_cons.1 hp with rfl | hp
        · exact hj
        · exact ih hm p hp

/-- Every write keeps the canonical form. -/
theorem Store.wf_write {m : Store w} (hm : Store.wf m) (a : Nat) (v : BitVec w) : Store.wf (m.write a v) := by
  induction m with
  | nil => exact Store.wf_put v (by simp) Store.wf_nil
  | cons q m ih =>
    obtain ⟨k, x⟩ := q
    obtain ⟨hk, hx, hm'⟩ := Store.wf_cons.1 hm
    simp only [Store.write]
    split
    · rename_i hak
      exact Store.wf_put v (by
        intro p hp
        rcases List.mem_cons.1 hp with rfl | hp
        · exact hak
        · exact Nat.lt_trans hak (hk p hp)) hm
    · split
      · rename_i hak; subst hak; exact Store.wf_put v hk hm'
      · exact Store.wf_cons.2 ⟨Store.lt_of_mem_write hk (by omega), hx, ih hm'⟩

/-- A read of the offset just written gives the value written. -/
theorem Store.read_write_same {m : Store w} (hm : Store.wf m) (a : Nat) (v : BitVec w) : (m.write a v).read a = v := by
  induction m with
  | nil => exact Store.read_put_same v (by simp)
  | cons q m ih =>
    obtain ⟨k, x⟩ := q
    obtain ⟨hk, -, hm'⟩ := Store.wf_cons.1 hm
    simp only [Store.write]
    split
    · rename_i hak
      refine Store.read_put_same v ?_
      intro p hp
      rcases List.mem_cons.1 hp with rfl | hp
      · exact hak
      · exact Nat.lt_trans hak (hk p hp)
    · split
      · rename_i hak; subst hak; exact Store.read_put_same v hk
      · rename_i h1 h2
        simp only [Store.read, h1, h2, if_false]
        exact ih hm'

/-- A write leaves every other offset alone. -/
theorem Store.read_write_other {m : Store w} (hm : Store.wf m) {a b : Nat} (v : BitVec w) (hab : b ≠ a) :
    (m.write a v).read b = m.read b := by
  induction m with
  | nil =>
    rcases Nat.lt_or_gt_of_ne hab with h | h
    · exact Store.read_put_of_gt v (by simp) h
    · exact Store.read_put_of_lt v h
  | cons q m ih =>
    obtain ⟨k, x⟩ := q
    obtain ⟨hk, -, hm'⟩ := Store.wf_cons.1 hm
    simp only [Store.write]
    split
    · rename_i hak
      rcases Nat.lt_or_gt_of_ne hab with h | h
      · refine Store.read_put_of_gt v ?_ h
        intro p hp
        rcases List.mem_cons.1 hp with rfl | hp
        · exact hak
        · exact Nat.lt_trans hak (hk p hp)
      · exact Store.read_put_of_lt v h
    · split
      · rename_i hak; subst hak
        rcases Nat.lt_or_gt_of_ne hab with h | h
        · rw [Store.read_put_of_gt v hk h, Store.read_below fun p hp => Nat.lt_trans h (hk p hp)]
          simp [Store.read, Nat.ne_of_lt h, h]
        · rw [Store.read_put_of_lt v h]
          simp [Store.read, Nat.ne_of_gt h, Nat.not_lt.2 (Nat.le_of_lt h)]
      · simp only [Store.read]
        split
        · rfl
        · split
          · rfl
          · exact ih hm'

/-- Reading after a write, in one equation. -/
theorem Store.read_write {m : Store w} (hm : Store.wf m) (a b : Nat) (v : BitVec w) :
    (m.write a v).read b = if b = a then v else m.read b := by
  split
  · subst b; exact Store.read_write_same hm a v
  · exact Store.read_write_other hm v ‹_›

theorem Store.wf_ofList (a : Nat) (vs : List (BitVec w)) :
    Store.wf (Store.ofList a vs) ∧ ∀ p ∈ Store.ofList a vs, a ≤ p.1 := by
  induction vs generalizing a with
  | nil => exact ⟨Store.wf_nil, by simp [Store.ofList]⟩
  | cons v vs ih =>
    obtain ⟨h1, h2⟩ := ih (a + 1)
    have h3 : ∀ p ∈ Store.ofList (a + 1) vs, a < p.1 := fun p hp => h2 p hp
    refine ⟨Store.wf_put v h3 h1, ?_⟩
    intro p hp
    unfold Store.ofList Store.put at hp
    split at hp
    · exact Nat.le_of_lt (h3 p hp)
    · rcases List.mem_cons.1 hp with rfl | hp
      · exact Nat.le_refl _
      · exact Nat.le_of_lt (h3 p hp)

end Sys2Proof.Machine
end

