-- ==== Sys2Proof/Laws/Canonical.lean ====
section
/-! SUPPORT. Every operation on storage keeps the canonical form (10_state.md R28): CPU writes, the transfer engines, the
PPU's pixels, the APU's samples and the cartridge. -/
namespace Sys2Proof.Machine

/-! ### The output buffers -/

theorem outPixel_fb_wf {s : State} {p : Ppu} (h : Store.wf p.fb) : Store.wf (p.outPixel s).fb := by
  unfold Ppu.outPixel
  dsimp only
  split <;> split <;> first | exact h | exact Store.wf_write h ..

theorem pixelStep_fb_wf {s : State} (h : Store.wf s.ppu.fb) : Store.wf (pixelStep s).fb := by
  unfold pixelStep
  split
  · exact h
  · exact outPixel_fb_wf h

theorem lineEntry_fb (oam : Memory) (p : Ppu) : (p.lineEntry oam).ppu.fb = p.fb := by
  unfold Ppu.lineEntry
  split
  · rfl
  · split <;> rfl

theorem nextLine_fb (p : Ppu) : p.nextLine.fb = p.fb := by unfold Ppu.nextLine; split <;> rfl

theorem advance_fb (s : State) (p : Ppu) : (p.advance s).ppu.fb = p.fb := by
  unfold Ppu.advance
  dsimp only
  split
  · rw [lineEntry_fb, nextLine_fb]
  · split
    · rfl
    · split <;> rfl

theorem ppuTick_fb_wf {s : State} (h : Store.wf s.ppu.fb) : Store.wf (ppuTick s).ppu.fb := by
  unfold ppuTick
  split
  · rw [advance_fb]
    split
    · exact pixelStep_fb_wf h
    · exact h
  · exact h

theorem frameSeqStep_audioBuf (a : Apu) : a.frameSeqStep.audioBuf = a.audioBuf := by
  have hs : ∀ b : Apu, b.sweepTick.audioBuf = b.audioBuf := by
    intro b; unfold Apu.sweepTick; dsimp only; split
    · rfl
    · split <;> rfl
  have he : ∀ b : Apu, b.envelopeTick.audioBuf = b.audioBuf := fun _ => rfl
  have hl : ∀ b : Apu, b.lengthTick.audioBuf = b.audioBuf := fun _ => rfl
  unfold Apu.frameSeqStep
  dsimp only
  split <;> split <;> split <;> simp only [hs, he, hl]

theorem sequencer_audioBuf (a : Apu) : a.sequencer.audioBuf = a.audioBuf := by
  unfold Apu.sequencer
  split
  · exact frameSeqStep_audioBuf _
  · rfl

theorem apuTick_audioBuf_wf {p : Config.Params} {w : Memory} {a : Apu} (h : Store.wf a.audioBuf) :
    Store.wf (a.tick p w).audioBuf := by
  have hp : ∀ b : Apu, Store.wf b.audioBuf → Store.wf (b.putSample p w).audioBuf := by
    intro b hb
    unfold Apu.putSample
    dsimp only
    split <;> exact Store.wf_write (Store.wf_write hb ..) ..
  have ht : ∀ b : Apu, Store.wf b.audioBuf → Store.wf (b.sampleTick p w).audioBuf := by
    intro b hb
    unfold Apu.sampleTick
    split
    · exact hp _ hb
    · exact hb
  unfold Apu.tick
  refine ht _ ?_
  split
  · rw [sequencer_audioBuf]; exact h
  · exact h

/-! ### The cartridge -/

theorem control_rom (c : Cart) (i : Inputs) (a : Nat) (v : Byte) : (c.control i a v).1.rom = c.rom := by
  unfold Cart.control; split <;> rfl
theorem control_eram (c : Cart) (i : Inputs) (a : Nat) (v : Byte) : (c.control i a v).1.eram = c.eram := by
  unfold Cart.control; split <;> rfl

theorem Mbc2.control_ram (m : Mbc2) (a : Nat) (v : Byte) : (m.control a v).ram = m.ram := by
  unfold Mbc2.control; split
  · split <;> rfl
  · rfl

theorem control_mbc2Ram (c : Cart) (i : Inputs) (a : Nat) (v : Byte) :
    (c.control i a v).1.mapper.mbc2Ram = c.mapper.mbc2Ram := by
  unfold Cart.control
  split <;> (rename_i hm; rw [hm])
  · rfl
  · exact Mbc2.control_ram ..
  · rfl
  · rfl

/-- The cartridge's arrays are in canonical form. -/
def Cart.Canonical (c : Cart) : Prop := Memory.wf c.rom ∧ Memory.wf c.eram ∧ c.mapper.canonical

theorem ramWrite_canonical {c : Cart} (i : Inputs) (a : Nat) (v : Byte) (h : c.Canonical) :
    (c.ramWrite i a v).1.Canonical := by
  obtain ⟨h1, h2, h3⟩ := h
  unfold Cart.ramWrite
  split
  · exact ⟨h1, Store.wf_write h2 .., h3⟩
  · rename_i hm
    unfold Mapper.canonical at h3
    rw [hm] at h3
    exact ⟨h1, h2, Store.wf_write (m := Mbc2.ram _) h3 ..⟩
  · split
    · exact ⟨h1, h2, Store.wf_nil⟩
    · exact ⟨h1, h2, h3⟩
  · exact ⟨h1, h2, h3⟩

theorem cartWrite_canonical {c : Cart} (i : Inputs) (a : Nat) (v : Byte) (h : c.Canonical) :
    (c.write i a v).1.Canonical := by
  unfold Cart.write
  split
  · obtain ⟨h1, h2, h3⟩ := h
    refine ⟨by rw [control_rom]; exact h1, by rw [control_eram]; exact h2, ?_⟩
    unfold Mapper.canonical
    rw [control_mbc2Ram]
    exact h3
  · exact ramWrite_canonical i a v h

theorem State.Canonical.cart {s : State} (h : s.Canonical) : s.cart.Canonical := ⟨h.rom, h.eram, h.mbc2⟩

theorem State.Canonical.setCart {s : State} {c : Cart} {i : Inputs} (h : s.Canonical) (hc : c.Canonical) :
    State.Canonical { s with cart := c, inputs := i } :=
  { h with rom := hc.1, eram := hc.2.1, mbc2 := hc.2.2 }

/-! ### CPU writes -/

theorem writeLcdc_fb (oam : Memory) (p : Ppu) (v : Byte) : (p.writeLcdc oam v).fb = p.fb := by
  unfold Ppu.writeLcdc
  dsimp only
  split
  · rfl
  · split <;> rfl

theorem writeReg_audioBuf (a : Apu) (r : ApuReg) (v : Byte) : (a.writeReg r v).audioBuf = a.audioBuf := by
  unfold Apu.writeReg
  split
  · cases r <;> rfl
  · rfl

theorem writeNr52_audioBuf (a : Apu) (v : Byte) : (a.writeNr52 v).audioBuf = a.audioBuf := by
  unfold Apu.writeNr52
  split <;> split <;> rfl

theorem ioWriteReg_canonical {s : State} (r : IoReg) (v : Byte) (h : s.Canonical) : (ioWriteReg s r v).Canonical := by
  cases r with
  | apu r => exact { h with audioBuf := by simpa only [ioWriteReg, writeReg_audioBuf] using h.audioBuf }
  | nr52 => exact { h with audioBuf := by simpa only [ioWriteReg, writeNr52_audioBuf] using h.audioBuf }
  | wave k =>
    refine { h with wave := ?_ }
    simp only [ioWriteReg, Apu.writeWave]
    split
    · exact h.wave
    · exact Store.wf_write h.wave ..
  | lcdc => exact { h with fb := by simpa only [ioWriteReg, writeLcdc_fb] using h.fb }
  | bcpd =>
    refine { h with bgpal := ?_ }
    simp only [ioWriteReg]
    split
    · exact h.bgpal
    · exact Store.wf_write h.bgpal ..
  | ocpd =>
    refine { h with obpal := ?_ }
    simp only [ioWriteReg]
    split
    · exact h.obpal
    · exact Store.wf_write h.obpal ..
  | _ => exact { h with }

theorem busWrite_canonical {s : State} (a : Word) (v : Byte) (h : s.Canonical) : (busWrite s a v).Canonical := by
  unfold busWrite busWriteRegion
  split
  · exact h.setCart (cartWrite_canonical _ _ _ h.cart)
  · refine { h with vram := ?_ }
    dsimp only
    split
    · exact h.vram
    · exact Store.wf_write h.vram ..
  · exact h.setCart (cartWrite_canonical _ _ _ h.cart)
  · exact { h with wram := Store.wf_write h.wram .. }
  · exact { h with wram := Store.wf_write h.wram .. }
  · refine { h with oam := ?_ }
    dsimp only
    split
    · exact h.oam
    · exact Store.wf_write h.oam ..
  · exact h
  · unfold ioWrite
    split
    · exact ioWriteReg_canonical _ _ h
    · exact h
  · exact { h with hram := Store.wf_write h.hram .. }
  · exact { h with }

/-! ### Time and the transfer engines -/

theorem tickFast_canonical {s : State} (k : Nat) (h : s.Canonical) : (tickFast k s).Canonical := by
  unfold tickFast
  dsimp only
  split
  · unfold oamDmaStep
    refine { h with oam := ?_ }
    dsimp only
    split
    · exact Store.wf_write h.oam ..
    · exact h.oam
  · exact { h with }

theorem tickSlow_canonical {s : State} (h : s.Canonical) : (tickSlow s).Canonical :=
  { h with fb := ppuTick_fb_wf h.fb, audioBuf := apuTick_audioBuf_wf h.audioBuf }

theorem tickT_canonical {s : State} (k : Nat) (h : s.Canonical) : (tickT k s).Canonical := by
  unfold tickT
  split
  · exact tickSlow_canonical (tickFast_canonical k h)
  · exact tickFast_canonical k h

theorem advanceM_canonical {s : State} (h : s.Canonical) : (advanceM s).Canonical :=
  tickT_canonical 3 (tickT_canonical 2 (tickT_canonical 1 (tickT_canonical 0 h)))

theorem hdmaCopyByte_canonical {s : State} (h : s.Canonical) : (hdmaCopyByte s).Canonical :=
  { h with vram := Store.wf_write h.vram .. }

theorem memWrite_canonical {s : State} (a : Word) (v : Byte) (h : s.Canonical) : (memWrite s a v).Canonical :=
  advanceM_canonical (busWrite_canonical a v h)

end Sys2Proof.Machine
end

