-- ==== Sys2Proof/Laws/CpuFree.lean ====
section
/-! SUPPORT. The CPU's registers and flags are no input of time or of an access: every other unit evolves alike whatever
they hold, so a change of them commutes with an M-cycle, a read and a write. -/
namespace Sys2Proof.Machine

/-- `s` with the CPU `c`. -/
abbrev withCpu (s : State) (c : Cpu) : State := { s with cpu := c }

theorem tickFast_withCpu (k : Nat) (s : State) (c : Cpu) : tickFast k (withCpu s c) = withCpu (tickFast k s) c := by
  unfold tickFast; dsimp only; split <;> rfl

theorem tickSlow_withCpu (s : State) (c : Cpu) : tickSlow (withCpu s c) = withCpu (tickSlow s) c := rfl

theorem tickT_withCpu (k : Nat) (s : State) (c : Cpu) : tickT k (withCpu s c) = withCpu (tickT k s) c := by
  unfold tickT
  rw [tickFast_withCpu]
  split
  · exact tickSlow_withCpu ..
  · rfl

theorem advanceM_withCpu (s : State) (c : Cpu) : advanceM (withCpu s c) = withCpu (advanceM s) c := by
  unfold advanceM
  simp only [tickT_withCpu]

theorem busRead_withCpu (s : State) (c : Cpu) (a : Word) : busRead (withCpu s c) a = busRead s a := rfl

theorem ioWriteReg_withCpu (s : State) (c : Cpu) (r : IoReg) (v : Byte) :
    ioWriteReg (withCpu s c) r v = withCpu (ioWriteReg s r v) c := by
  cases r <;> rfl

theorem ioWrite_withCpu (s : State) (c : Cpu) (lo : Nat) (v : Byte) :
    ioWrite (withCpu s c) lo v = withCpu (ioWrite s lo v) c := by
  unfold ioWrite
  show (match ioRegAt s.cgb lo with | some r => _ | none => _) = _
  cases ioRegAt s.cgb lo with
  | none => rfl
  | some r => exact ioWriteReg_withCpu ..

theorem busWrite_withCpu (s : State) (c : Cpu) (a : Word) (v : Byte) :
    busWrite (withCpu s c) a v = withCpu (busWrite s a v) c := by
  unfold busWrite busWriteRegion
  split <;> first | rfl | exact ioWrite_withCpu ..

theorem memWrite_withCpu (s : State) (c : Cpu) (a : Word) (v : Byte) :
    memWrite (withCpu s c) a v = withCpu (memWrite s a v) c := by
  unfold memWrite
  rw [busWrite_withCpu, advanceM_withCpu]

theorem passM_withCpu (n : Nat) (s : State) (c : Cpu) : passM n (withCpu s c) = withCpu (passM n s) c := by
  induction n generalizing s with
  | zero => rfl
  | succ n ih => exact (congrArg (passM n) (advanceM_withCpu s c)).trans (ih (advanceM s))

@[simp] theorem passM_cpu (n : Nat) (s : State) : (passM n s).cpu = s.cpu := by
  induction n generalizing s with
  | zero => rfl
  | succ n ih => exact (ih (advanceM s)).trans (advanceM_cpu s)

/-! ### The setters of the CPU commute with time, reads and writes -/

@[simp] theorem advanceM_setPc (s : State) (v : Word) : advanceM (s.setPc v) = (advanceM s).setPc v := by
  unfold State.setPc; rw [advanceM_cpu]; exact advanceM_withCpu s { s.cpu with pc := v }
@[simp] theorem passM_setPc (n : Nat) (s : State) (v : Word) : passM n (s.setPc v) = (passM n s).setPc v := by
  unfold State.setPc; rw [passM_cpu]; exact passM_withCpu n s { s.cpu with pc := v }
@[simp] theorem busRead_setPc (s : State) (v : Word) (a : Word) : busRead (s.setPc v) a = busRead s a := rfl
@[simp] theorem busWrite_setPc (s : State) (v : Word) (a : Word) (w : Byte) :
    busWrite (s.setPc v) a w = (busWrite s a w).setPc v := by
  unfold State.setPc; rw [busWrite_cpu]; exact busWrite_withCpu s { s.cpu with pc := v } a w
@[simp] theorem memWrite_setPc (s : State) (v : Word) (a : Word) (w : Byte) :
    memWrite (s.setPc v) a w = (memWrite s a w).setPc v := by
  unfold memWrite; rw [busWrite_setPc, advanceM_setPc]

@[simp] theorem advanceM_setSp (s : State) (v : Word) : advanceM (s.setSp v) = (advanceM s).setSp v := by
  unfold State.setSp; rw [advanceM_cpu]; exact advanceM_withCpu s { s.cpu with sp := v }
@[simp] theorem passM_setSp (n : Nat) (s : State) (v : Word) : passM n (s.setSp v) = (passM n s).setSp v := by
  unfold State.setSp; rw [passM_cpu]; exact passM_withCpu n s { s.cpu with sp := v }
@[simp] theorem busRead_setSp (s : State) (v : Word) (a : Word) : busRead (s.setSp v) a = busRead s a := rfl
@[simp] theorem busWrite_setSp (s : State) (v : Word) (a : Word) (w : Byte) :
    busWrite (s.setSp v) a w = (busWrite s a w).setSp v := by
  unfold State.setSp; rw [busWrite_cpu]; exact busWrite_withCpu s { s.cpu with sp := v } a w
@[simp] theorem memWrite_setSp (s : State) (v : Word) (a : Word) (w : Byte) :
    memWrite (s.setSp v) a w = (memWrite s a w).setSp v := by
  unfold memWrite; rw [busWrite_setSp, advanceM_setSp]

@[simp] theorem advanceM_setIme (s : State) (v : Bool) : advanceM (s.setIme v) = (advanceM s).setIme v := by
  unfold State.setIme; rw [advanceM_cpu]; exact advanceM_withCpu s { s.cpu with ime := v }
@[simp] theorem passM_setIme (n : Nat) (s : State) (v : Bool) : passM n (s.setIme v) = (passM n s).setIme v := by
  unfold State.setIme; rw [passM_cpu]; exact passM_withCpu n s { s.cpu with ime := v }
@[simp] theorem busRead_setIme (s : State) (v : Bool) (a : Word) : busRead (s.setIme v) a = busRead s a := rfl
@[simp] theorem busWrite_setIme (s : State) (v : Bool) (a : Word) (w : Byte) :
    busWrite (s.setIme v) a w = (busWrite s a w).setIme v := by
  unfold State.setIme; rw [busWrite_cpu]; exact busWrite_withCpu s { s.cpu with ime := v } a w
@[simp] theorem memWrite_setIme (s : State) (v : Bool) (a : Word) (w : Byte) :
    memWrite (s.setIme v) a w = (memWrite s a w).setIme v := by
  unfold memWrite; rw [busWrite_setIme, advanceM_setIme]

@[simp] theorem advanceM_setImePending (s : State) (v : Bool) : advanceM (s.setImePending v) = (advanceM s).setImePending v := by
  unfold State.setImePending; rw [advanceM_cpu]; exact advanceM_withCpu s { s.cpu with imePending := v }
@[simp] theorem passM_setImePending (n : Nat) (s : State) (v : Bool) : passM n (s.setImePending v) = (passM n s).setImePending v := by
  unfold State.setImePending; rw [passM_cpu]; exact passM_withCpu n s { s.cpu with imePending := v }
@[simp] theorem busRead_setImePending (s : State) (v : Bool) (a : Word) : busRead (s.setImePending v) a = busRead s a := rfl
@[simp] theorem busWrite_setImePending (s : State) (v : Bool) (a : Word) (w : Byte) :
    busWrite (s.setImePending v) a w = (busWrite s a w).setImePending v := by
  unfold State.setImePending; rw [busWrite_cpu]; exact busWrite_withCpu s { s.cpu with imePending := v } a w
@[simp] theorem memWrite_setImePending (s : State) (v : Bool) (a : Word) (w : Byte) :
    memWrite (s.setImePending v) a w = (memWrite s a w).setImePending v := by
  unfold memWrite; rw [busWrite_setImePending, advanceM_setImePending]

@[simp] theorem advanceM_setHalt (s : State) (v : Bool) : advanceM (s.setHalt v) = (advanceM s).setHalt v := by
  unfold State.setHalt; rw [advanceM_cpu]; exact advanceM_withCpu s { s.cpu with halt := v }
@[simp] theorem passM_setHalt (n : Nat) (s : State) (v : Bool) : passM n (s.setHalt v) = (passM n s).setHalt v := by
  unfold State.setHalt; rw [passM_cpu]; exact passM_withCpu n s { s.cpu with halt := v }
@[simp] theorem busRead_setHalt (s : State) (v : Bool) (a : Word) : busRead (s.setHalt v) a = busRead s a := rfl
@[simp] theorem busWrite_setHalt (s : State) (v : Bool) (a : Word) (w : Byte) :
    busWrite (s.setHalt v) a w = (busWrite s a w).setHalt v := by
  unfold State.setHalt; rw [busWrite_cpu]; exact busWrite_withCpu s { s.cpu with halt := v } a w
@[simp] theorem memWrite_setHalt (s : State) (v : Bool) (a : Word) (w : Byte) :
    memWrite (s.setHalt v) a w = (memWrite s a w).setHalt v := by
  unfold memWrite; rw [busWrite_setHalt, advanceM_setHalt]

@[simp] theorem advanceM_setStop (s : State) (v : Bool) : advanceM (s.setStop v) = (advanceM s).setStop v := by
  unfold State.setStop; rw [advanceM_cpu]; exact advanceM_withCpu s { s.cpu with stop := v }
@[simp] theorem passM_setStop (n : Nat) (s : State) (v : Bool) : passM n (s.setStop v) = (passM n s).setStop v := by
  unfold State.setStop; rw [passM_cpu]; exact passM_withCpu n s { s.cpu with stop := v }
@[simp] theorem busRead_setStop (s : State) (v : Bool) (a : Word) : busRead (s.setStop v) a = busRead s a := rfl
@[simp] theorem busWrite_setStop (s : State) (v : Bool) (a : Word) (w : Byte) :
    busWrite (s.setStop v) a w = (busWrite s a w).setStop v := by
  unfold State.setStop; rw [busWrite_cpu]; exact busWrite_withCpu s { s.cpu with stop := v } a w
@[simp] theorem memWrite_setStop (s : State) (v : Bool) (a : Word) (w : Byte) :
    memWrite (s.setStop v) a w = (memWrite s a w).setStop v := by
  unfold memWrite; rw [busWrite_setStop, advanceM_setStop]

@[simp] theorem advanceM_setA (s : State) (v : Byte) : advanceM (s.setA v) = (advanceM s).setA v := by
  unfold State.setA; rw [advanceM_cpu]; exact advanceM_withCpu s { s.cpu with a := v }
@[simp] theorem passM_setA (n : Nat) (s : State) (v : Byte) : passM n (s.setA v) = (passM n s).setA v := by
  unfold State.setA; rw [passM_cpu]; exact passM_withCpu n s { s.cpu with a := v }
@[simp] theorem busRead_setA (s : State) (v : Byte) (a : Word) : busRead (s.setA v) a = busRead s a := rfl
@[simp] theorem busWrite_setA (s : State) (v : Byte) (a : Word) (w : Byte) :
    busWrite (s.setA v) a w = (busWrite s a w).setA v := by
  unfold State.setA; rw [busWrite_cpu]; exact busWrite_withCpu s { s.cpu with a := v } a w
@[simp] theorem memWrite_setA (s : State) (v : Byte) (a : Word) (w : Byte) :
    memWrite (s.setA v) a w = (memWrite s a w).setA v := by
  unfold memWrite; rw [busWrite_setA, advanceM_setA]

@[simp] theorem advanceM_setF (s : State) (v : Flags) : advanceM (s.setF v) = (advanceM s).setF v := by
  unfold State.setF; rw [advanceM_cpu]; exact advanceM_withCpu s { s.cpu with f := v }
@[simp] theorem passM_setF (n : Nat) (s : State) (v : Flags) : passM n (s.setF v) = (passM n s).setF v := by
  unfold State.setF; rw [passM_cpu]; exact passM_withCpu n s { s.cpu with f := v }
@[simp] theorem busRead_setF (s : State) (v : Flags) (a : Word) : busRead (s.setF v) a = busRead s a := rfl
@[simp] theorem busWrite_setF (s : State) (v : Flags) (a : Word) (w : Byte) :
    busWrite (s.setF v) a w = (busWrite s a w).setF v := by
  unfold State.setF; rw [busWrite_cpu]; exact busWrite_withCpu s { s.cpu with f := v } a w
@[simp] theorem memWrite_setF (s : State) (v : Flags) (a : Word) (w : Byte) :
    memWrite (s.setF v) a w = (memWrite s a w).setF v := by
  unfold memWrite; rw [busWrite_setF, advanceM_setF]

@[simp] theorem advanceM_setHl (s : State) (v : Word) : advanceM (s.setHl v) = (advanceM s).setHl v := by
  unfold State.setHl; rw [advanceM_cpu]; exact advanceM_withCpu s (s.cpu.setHl v)
@[simp] theorem passM_setHl (n : Nat) (s : State) (v : Word) : passM n (s.setHl v) = (passM n s).setHl v := by
  unfold State.setHl; rw [passM_cpu]; exact passM_withCpu n s (s.cpu.setHl v)
@[simp] theorem busRead_setHl (s : State) (v : Word) (a : Word) : busRead (s.setHl v) a = busRead s a := rfl
@[simp] theorem busWrite_setHl (s : State) (v : Word) (a : Word) (w : Byte) :
    busWrite (s.setHl v) a w = (busWrite s a w).setHl v := by
  unfold State.setHl; rw [busWrite_cpu]; exact busWrite_withCpu s (s.cpu.setHl v) a w
@[simp] theorem memWrite_setHl (s : State) (v : Word) (a : Word) (w : Byte) :
    memWrite (s.setHl v) a w = (memWrite s a w).setHl v := by
  unfold memWrite; rw [busWrite_setHl, advanceM_setHl]

/-! ### The stack operations in closed form -/

@[simp] theorem setSp_setSp (s : State) (v w : Word) : (s.setSp v).setSp w = s.setSp w := rfl

/-- `Push16` (41_load16_stack.md R237): two writes, and `sp` down by two. -/
theorem push16_eq (s : State) (v : Word) : push16 s v =
    (memWrite (memWrite s (s.cpu.sp - 1#16) (hiByte v)) (s.cpu.sp - 2#16) (loByte v)).setSp (s.cpu.sp - 2#16) := by
  have h2 : s.cpu.sp - 1#16 - 1#16 = s.cpu.sp - 2#16 := by bv_omega
  simp only [push16, memWrite_setSp, State.setSp_cpu_sp, setSp_setSp, h2]

/-- `Pop16` (41_load16_stack.md R238): two reads, one M-cycle apart, and `sp` up by two. -/
theorem pop16_eq (s : State) : pop16 s =
    (pair (busRead (advanceM s) (s.cpu.sp + 1#16)) (busRead s s.cpu.sp), (passM 2 s).setSp (s.cpu.sp + 2#16)) := by
  have h2 : s.cpu.sp + 1#16 + 1#16 = s.cpu.sp + 2#16 := by bv_omega
  simp only [pop16, memRead, advanceM_cpu, advanceM_setSp, busRead_setSp, State.setSp_cpu_sp, setSp_setSp, h2, passM]

end Sys2Proof.Machine
end

