-- ==== Sys2Proof/Laws/Families.lean ====
section
/-! SUPPORT. The 512 constructors by families: `Instr.byFamily` reduces a claim about every instruction to one case per
family, and `exec_<family>` gives the effect of each family, so that no proof splits `exec` again. -/
namespace Sys2Proof

/-- A claim about every instruction, one case per family. -/
theorem Instr.byFamily {P : Instr → Prop}
    (ldRR : ∀ (d r : R8), P (Instr.ldRR d r))
    (ldRN : ∀ (r : R8) (n : Byte), P (Instr.ldRN r n))
    (ldRM : ∀ (r : R8), P (Instr.ldRM r))
    (ldMR : ∀ (r : R8), P (Instr.ldMR r))
    (ldRRnn : ∀ (rr : R16) (nn : Word), P (Instr.ldRRnn rr nn))
    (pushRR : ∀ (rr : R16Stk), P (Instr.pushRR rr))
    (popRR : ∀ (rr : R16Stk), P (Instr.popRR rr))
    (aluR : ∀ (op : AluOp) (r : R8), P (Instr.aluR op r))
    (aluM : ∀ (op : AluOp), P (Instr.aluM op))
    (aluN : ∀ (op : AluOp) (n : Byte), P (Instr.aluN op n))
    (incR : ∀ (r : R8), P (Instr.incR r))
    (decR : ∀ (r : R8), P (Instr.decR r))
    (addHLRR : ∀ (rr : R16), P (Instr.addHLRR rr))
    (incRR : ∀ (rr : R16), P (Instr.incRR rr))
    (decRR : ∀ (rr : R16), P (Instr.decRR rr))
    (rotR : ∀ (op : RotOp) (r : R8), P (Instr.rotR op r))
    (rotM : ∀ (op : RotOp), P (Instr.rotM op))
    (bitR : ∀ (b : Oct) (r : R8), P (Instr.bitR b r))
    (bitM : ∀ (b : Oct), P (Instr.bitM b))
    (resR : ∀ (b : Oct) (r : R8), P (Instr.resR b r))
    (resM : ∀ (b : Oct), P (Instr.resM b))
    (setR : ∀ (b : Oct) (r : R8), P (Instr.setR b r))
    (setM : ∀ (b : Oct), P (Instr.setM b))
    (jpCC : ∀ (cc : Cond) (nn : Word), P (Instr.jpCC cc nn))
    (jrCC : ∀ (cc : Cond) (e : Byte), P (Instr.jrCC cc e))
    (callCC : ∀ (cc : Cond) (nn : Word), P (Instr.callCC cc nn))
    (retCC : ∀ (cc : Cond), P (Instr.retCC cc))
    (rst : ∀ (y : Oct), P (Instr.rst y))
    (nop : P Instr.nop)
    (ld_mBC_A : P Instr.ld_mBC_A)
    (rlca : P Instr.rlca)
    (ld_mnn_SP : ∀ (nn : Word), P (Instr.ld_mnn_SP nn))
    (ld_A_mBC : P Instr.ld_A_mBC)
    (rrca : P Instr.rrca)
    (stop : ∀ (pad : Byte), P (Instr.stop pad))
    (ld_mDE_A : P Instr.ld_mDE_A)
    (rla : P Instr.rla)
    (jr_e : ∀ (e : Byte), P (Instr.jr_e e))
    (ld_A_mDE : P Instr.ld_A_mDE)
    (rra : P Instr.rra)
    (ld_mHLinc_A : P Instr.ld_mHLinc_A)
    (daa : P Instr.daa)
    (ld_A_mHLinc : P Instr.ld_A_mHLinc)
    (cpl : P Instr.cpl)
    (ld_mHLdec_A : P Instr.ld_mHLdec_A)
    (inc_mHL : P Instr.inc_mHL)
    (dec_mHL : P Instr.dec_mHL)
    (ld_mHL_n : ∀ (n : Byte), P (Instr.ld_mHL_n n))
    (scf : P Instr.scf)
    (ld_A_mHLdec : P Instr.ld_A_mHLdec)
    (ccf : P Instr.ccf)
    (halt : P Instr.halt)
    (jp_nn : ∀ (nn : Word), P (Instr.jp_nn nn))
    (ret : P Instr.ret)
    (prefixCB : P Instr.prefixCB)
    (call_nn : ∀ (nn : Word), P (Instr.call_nn nn))
    (reti : P Instr.reti)
    (ldh_mn_A : ∀ (n : Byte), P (Instr.ldh_mn_A n))
    (ldh_mC_A : P Instr.ldh_mC_A)
    (add_SP_e : ∀ (e : Byte), P (Instr.add_SP_e e))
    (jp_HL : P Instr.jp_HL)
    (ld_mnn_A : ∀ (nn : Word), P (Instr.ld_mnn_A nn))
    (ldh_A_mn : ∀ (n : Byte), P (Instr.ldh_A_mn n))
    (ldh_A_mC : P Instr.ldh_A_mC)
    (di : P Instr.di)
    (ld_HL_SPe : ∀ (e : Byte), P (Instr.ld_HL_SPe e))
    (ld_SP_HL : P Instr.ld_SP_HL)
    (ld_A_mnn : ∀ (nn : Word), P (Instr.ld_A_mnn nn))
    (ei : P Instr.ei)
    (illegal : ∀ i, i.isIllegal = true → P i)
    (i : Instr) : P i := by
  cases i with
  | nop => exact nop
  | ld_BC_nn nn => exact ldRRnn .BC nn
  | ld_mBC_A => exact ld_mBC_A
  | inc_BC => exact incRR .BC
  | inc_B => exact incR .B
  | dec_B => exact decR .B
  | ld_B_n n => exact ldRN .B n
  | rlca => exact rlca
  | ld_mnn_SP nn => exact ld_mnn_SP nn
  | add_HL_BC => exact addHLRR .BC
  | ld_A_mBC => exact ld_A_mBC
  | dec_BC => exact decRR .BC
  | inc_C => exact incR .C
  | dec_C => exact decR .C
  | ld_C_n n => exact ldRN .C n
  | rrca => exact rrca
  | stop pad => exact stop pad
  | ld_DE_nn nn => exact ldRRnn .DE nn
  | ld_mDE_A => exact ld_mDE_A
  | inc_DE => exact incRR .DE
  | inc_D => exact incR .D
  | dec_D => exact decR .D
  | ld_D_n n => exact ldRN .D n
  | rla => exact rla
  | jr_e e => exact jr_e e
  | add_HL_DE => exact addHLRR .DE
  | ld_A_mDE => exact ld_A_mDE
  | dec_DE => exact decRR .DE
  | inc_E => exact incR .E
  | dec_E => exact decR .E
  | ld_E_n n => exact ldRN .E n
  | rra => exact rra
  | jr_NZ_e e => exact jrCC .NZ e
  | ld_HL_nn nn => exact ldRRnn .HL nn
  | ld_mHLinc_A => exact ld_mHLinc_A
  | inc_HL => exact incRR .HL
  | inc_H => exact incR .H
  | dec_H => exact decR .H
  | ld_H_n n => exact ldRN .H n
  | daa => exact daa
  | jr_Z_e e => exact jrCC .Z e
  | add_HL_HL => exact addHLRR .HL
  | ld_A_mHLinc => exact ld_A_mHLinc
  | dec_HL => exact decRR .HL
  | inc_L => exact incR .L
  | dec_L => exact decR .L
  | ld_L_n n => exact ldRN .L n
  | cpl => exact cpl
  | jr_NC_e e => exact jrCC .NC e
  | ld_SP_nn nn => exact ldRRnn .SP nn
  | ld_mHLdec_A => exact ld_mHLdec_A
  | inc_SP => exact incRR .SP
  | inc_mHL => exact inc_mHL
  | dec_mHL => exact dec_mHL
  | ld_mHL_n n => exact ld_mHL_n n
  | scf => exact scf
  | jr_C_e e => exact jrCC .C e
  | add_HL_SP => exact addHLRR .SP
  | ld_A_mHLdec => exact ld_A_mHLdec
  | dec_SP => exact decRR .SP
  | inc_A => exact incR .A
  | dec_A => exact decR .A
  | ld_A_n n => exact ldRN .A n
  | ccf => exact ccf
  | ld_B_B => exact ldRR .B .B
  | ld_B_C => exact ldRR .B .C
  | ld_B_D => exact ldRR .B .D
  | ld_B_E => exact ldRR .B .E
  | ld_B_H => exact ldRR .B .H
  | ld_B_L => exact ldRR .B .L
  | ld_B_mHL => exact ldRM .B
  | ld_B_A => exact ldRR .B .A
  | ld_C_B => exact ldRR .C .B
  | ld_C_C => exact ldRR .C .C
  | ld_C_D => exact ldRR .C .D
  | ld_C_E => exact ldRR .C .E
  | ld_C_H => exact ldRR .C .H
  | ld_C_L => exact ldRR .C .L
  | ld_C_mHL => exact ldRM .C
  | ld_C_A => exact ldRR .C .A
  | ld_D_B => exact ldRR .D .B
  | ld_D_C => exact ldRR .D .C
  | ld_D_D => exact ldRR .D .D
  | ld_D_E => exact ldRR .D .E
  | ld_D_H => exact ldRR .D .H
  | ld_D_L => exact ldRR .D .L
  | ld_D_mHL => exact ldRM .D
  | ld_D_A => exact ldRR .D .A
  | ld_E_B => exact ldRR .E .B
  | ld_E_C => exact ldRR .E .C
  | ld_E_D => exact ldRR .E .D
  | ld_E_E => exact ldRR .E .E
  | ld_E_H => exact ldRR .E .H
  | ld_E_L => exact ldRR .E .L
  | ld_E_mHL => exact ldRM .E
  | ld_E_A => exact ldRR .E .A
  | ld_H_B => exact ldRR .H .B
  | ld_H_C => exact ldRR .H .C
  | ld_H_D => exact ldRR .H .D
  | ld_H_E => exact ldRR .H .E
  | ld_H_H => exact ldRR .H .H
  | ld_H_L => exact ldRR .H .L
  | ld_H_mHL => exact ldRM .H
  | ld_H_A => exact ldRR .H .A
  | ld_L_B => exact ldRR .L .B
  | ld_L_C => exact ldRR .L .C
  | ld_L_D => exact ldRR .L .D
  | ld_L_E => exact ldRR .L .E
  | ld_L_H => exact ldRR .L .H
  | ld_L_L => exact ldRR .L .L
  | ld_L_mHL => exact ldRM .L
  | ld_L_A => exact ldRR .L .A
  | ld_mHL_B => exact ldMR .B
  | ld_mHL_C => exact ldMR .C
  | ld_mHL_D => exact ldMR .D
  | ld_mHL_E => exact ldMR .E
  | ld_mHL_H => exact ldMR .H
  | ld_mHL_L => exact ldMR .L
  | halt => exact halt
  | ld_mHL_A => exact ldMR .A
  | ld_A_B => exact ldRR .A .B
  | ld_A_C => exact ldRR .A .C
  | ld_A_D => exact ldRR .A .D
  | ld_A_E => exact ldRR .A .E
  | ld_A_H => exact ldRR .A .H
  | ld_A_L => exact ldRR .A .L
  | ld_A_mHL => exact ldRM .A
  | ld_A_A => exact ldRR .A .A
  | add_A_B => exact aluR .add .B
  | add_A_C => exact aluR .add .C
  | add_A_D => exact aluR .add .D
  | add_A_E => exact aluR .add .E
  | add_A_H => exact aluR .add .H
  | add_A_L => exact aluR .add .L
  | add_A_mHL => exact aluM .add
  | add_A_A => exact aluR .add .A
  | adc_A_B => exact aluR .adc .B
  | adc_A_C => exact aluR .adc .C
  | adc_A_D => exact aluR .adc .D
  | adc_A_E => exact aluR .adc .E
  | adc_A_H => exact aluR .adc .H
  | adc_A_L => exact aluR .adc .L
  | adc_A_mHL => exact aluM .adc
  | adc_A_A => exact aluR .adc .A
  | sub_A_B => exact aluR .sub .B
  | sub_A_C => exact aluR .sub .C
  | sub_A_D => exact aluR .sub .D
  | sub_A_E => exact aluR .sub .E
  | sub_A_H => exact aluR .sub .H
  | sub_A_L => exact aluR .sub .L
  | sub_A_mHL => exact aluM .sub
  | sub_A_A => exact aluR .sub .A
  | sbc_A_B => exact aluR .sbc .B
  | sbc_A_C => exact aluR .sbc .C
  | sbc_A_D => exact aluR .sbc .D
  | sbc_A_E => exact aluR .sbc .E
  | sbc_A_H => exact aluR .sbc .H
  | sbc_A_L => exact aluR .sbc .L
  | sbc_A_mHL => exact aluM .sbc
  | sbc_A_A => exact aluR .sbc .A
  | and_A_B => exact aluR .and .B
  | and_A_C => exact aluR .and .C
  | and_A_D => exact aluR .and .D
  | and_A_E => exact aluR .and .E
  | and_A_H => exact aluR .and .H
  | and_A_L => exact aluR .and .L
  | and_A_mHL => exact aluM .and
  | and_A_A => exact aluR .and .A
  | xor_A_B => exact aluR .xor .B
  | xor_A_C => exact aluR .xor .C
  | xor_A_D => exact aluR .xor .D
  | xor_A_E => exact aluR .xor .E
  | xor_A_H => exact aluR .xor .H
  | xor_A_L => exact aluR .xor .L
  | xor_A_mHL => exact aluM .xor
  | xor_A_A => exact aluR .xor .A
  | or_A_B => exact aluR .or .B
  | or_A_C => exact aluR .or .C
  | or_A_D => exact aluR .or .D
  | or_A_E => exact aluR .or .E
  | or_A_H => exact aluR .or .H
  | or_A_L => exact aluR .or .L
  | or_A_mHL => exact aluM .or
  | or_A_A => exact aluR .or .A
  | cp_A_B => exact aluR .cp .B
  | cp_A_C => exact aluR .cp .C
  | cp_A_D => exact aluR .cp .D
  | cp_A_E => exact aluR .cp .E
  | cp_A_H => exact aluR .cp .H
  | cp_A_L => exact aluR .cp .L
  | cp_A_mHL => exact aluM .cp
  | cp_A_A => exact aluR .cp .A
  | ret_NZ => exact retCC .NZ
  | pop_BC => exact popRR .BC
  | jp_NZ_nn nn => exact jpCC .NZ nn
  | jp_nn nn => exact jp_nn nn
  | call_NZ_nn nn => exact callCC .NZ nn
  | push_BC => exact pushRR .BC
  | add_A_n n => exact aluN .add n
  | rst_00 => exact rst .o0
  | ret_Z => exact retCC .Z
  | ret => exact ret
  | jp_Z_nn nn => exact jpCC .Z nn
  | prefixCB => exact prefixCB
  | call_Z_nn nn => exact callCC .Z nn
  | call_nn nn => exact call_nn nn
  | adc_A_n n => exact aluN .adc n
  | rst_08 => exact rst .o1
  | ret_NC => exact retCC .NC
  | pop_DE => exact popRR .DE
  | jp_NC_nn nn => exact jpCC .NC nn
  | illegal_D3 => exact illegal _ rfl
  | call_NC_nn nn => exact callCC .NC nn
  | push_DE => exact pushRR .DE
  | sub_A_n n => exact aluN .sub n
  | rst_10 => exact rst .o2
  | ret_C => exact retCC .C
  | reti => exact reti
  | jp_C_nn nn => exact jpCC .C nn
  | illegal_DB => exact illegal _ rfl
  | call_C_nn nn => exact callCC .C nn
  | illegal_DD => exact illegal _ rfl
  | sbc_A_n n => exact aluN .sbc n
  | rst_18 => exact rst .o3
  | ldh_mn_A n => exact ldh_mn_A n
  | pop_HL => exact popRR .HL
  | ldh_mC_A => exact ldh_mC_A
  | illegal_E3 => exact illegal _ rfl
  | illegal_E4 => exact illegal _ rfl
  | push_HL => exact pushRR .HL
  | and_A_n n => exact aluN .and n
  | rst_20 => exact rst .o4
  | add_SP_e e => exact add_SP_e e
  | jp_HL => exact jp_HL
  | ld_mnn_A nn => exact ld_mnn_A nn
  | illegal_EB => exact illegal _ rfl
  | illegal_EC => exact illegal _ rfl
  | illegal_ED => exact illegal _ rfl
  | xor_A_n n => exact aluN .xor n
  | rst_28 => exact rst .o5
  | ldh_A_mn n => exact ldh_A_mn n
  | pop_AF => exact popRR .AF
  | ldh_A_mC => exact ldh_A_mC
  | di => exact di
  | illegal_F4 => exact illegal _ rfl
  | push_AF => exact pushRR .AF
  | or_A_n n => exact aluN .or n
  | rst_30 => exact rst .o6
  | ld_HL_SPe e => exact ld_HL_SPe e
  | ld_SP_HL => exact ld_SP_HL
  | ld_A_mnn nn => exact ld_A_mnn nn
  | ei => exact ei
  | illegal_FC => exact illegal _ rfl
  | illegal_FD => exact illegal _ rfl
  | cp_A_n n => exact aluN .cp n
  | rst_38 => exact rst .o7
  | rlc_B => exact rotR .rlc .B
  | rlc_C => exact rotR .rlc .C
  | rlc_D => exact rotR .rlc .D
  | rlc_E => exact rotR .rlc .E
  | rlc_H => exact rotR .rlc .H
  | rlc_L => exact rotR .rlc .L
  | rlc_mHL => exact rotM .rlc
  | rlc_A => exact rotR .rlc .A
  | rrc_B => exact rotR .rrc .B
  | rrc_C => exact rotR .rrc .C
  | rrc_D => exact rotR .rrc .D
  | rrc_E => exact rotR .rrc .E
  | rrc_H => exact rotR .rrc .H
  | rrc_L => exact rotR .rrc .L
  | rrc_mHL => exact rotM .rrc
  | rrc_A => exact rotR .rrc .A
  | rl_B => exact rotR .rl .B
  | rl_C => exact rotR .rl .C
  | rl_D => exact rotR .rl .D
  | rl_E => exact rotR .rl .E
  | rl_H => exact rotR .rl .H
  | rl_L => exact rotR .rl .L
  | rl_mHL => exact rotM .rl
  | rl_A => exact rotR .rl .A
  | rr_B => exact rotR .rr .B
  | rr_C => exact rotR .rr .C
  | rr_D => exact rotR .rr .D
  | rr_E => exact rotR .rr .E
  | rr_H => exact rotR .rr .H
  | rr_L => exact rotR .rr .L
  | rr_mHL => exact rotM .rr
  | rr_A => exact rotR .rr .A
  | sla_B => exact rotR .sla .B
  | sla_C => exact rotR .sla .C
  | sla_D => exact rotR .sla .D
  | sla_E => exact rotR .sla .E
  | sla_H => exact rotR .sla .H
  | sla_L => exact rotR .sla .L
  | sla_mHL => exact rotM .sla
  | sla_A => exact rotR .sla .A
  | sra_B => exact rotR .sra .B
  | sra_C => exact rotR .sra .C
  | sra_D => exact rotR .sra .D
  | sra_E => exact rotR .sra .E
  | sra_H => exact rotR .sra .H
  | sra_L => exact rotR .sra .L
  | sra_mHL => exact rotM .sra
  | sra_A => exact rotR .sra .A
  | swap_B => exact rotR .swap .B
  | swap_C => exact rotR .swap .C
  | swap_D => exact rotR .swap .D
  | swap_E => exact rotR .swap .E
  | swap_H => exact rotR .swap .H
  | swap_L => exact rotR .swap .L
  | swap_mHL => exact rotM .swap
  | swap_A => exact rotR .swap .A
  | srl_B => exact rotR .srl .B
  | srl_C => exact rotR .srl .C
  | srl_D => exact rotR .srl .D
  | srl_E => exact rotR .srl .E
  | srl_H => exact rotR .srl .H
  | srl_L => exact rotR .srl .L
  | srl_mHL => exact rotM .srl
  | srl_A => exact rotR .srl .A
  | bit_0_B => exact bitR .o0 .B
  | bit_0_C => exact bitR .o0 .C
  | bit_0_D => exact bitR .o0 .D
  | bit_0_E => exact bitR .o0 .E
  | bit_0_H => exact bitR .o0 .H
  | bit_0_L => exact bitR .o0 .L
  | bit_0_mHL => exact bitM .o0
  | bit_0_A => exact bitR .o0 .A
  | bit_1_B => exact bitR .o1 .B
  | bit_1_C => exact bitR .o1 .C
  | bit_1_D => exact bitR .o1 .D
  | bit_1_E => exact bitR .o1 .E
  | bit_1_H => exact bitR .o1 .H
  | bit_1_L => exact bitR .o1 .L
  | bit_1_mHL => exact bitM .o1
  | bit_1_A => exact bitR .o1 .A
  | bit_2_B => exact bitR .o2 .B
  | bit_2_C => exact bitR .o2 .C
  | bit_2_D => exact bitR .o2 .D
  | bit_2_E => exact bitR .o2 .E
  | bit_2_H => exact bitR .o2 .H
  | bit_2_L => exact bitR .o2 .L
  | bit_2_mHL => exact bitM .o2
  | bit_2_A => exact bitR .o2 .A
  | bit_3_B => exact bitR .o3 .B
  | bit_3_C => exact bitR .o3 .C
  | bit_3_D => exact bitR .o3 .D
  | bit_3_E => exact bitR .o3 .E
  | bit_3_H => exact bitR .o3 .H
  | bit_3_L => exact bitR .o3 .L
  | bit_3_mHL => exact bitM .o3
  | bit_3_A => exact bitR .o3 .A
  | bit_4_B => exact bitR .o4 .B
  | bit_4_C => exact bitR .o4 .C
  | bit_4_D => exact bitR .o4 .D
  | bit_4_E => exact bitR .o4 .E
  | bit_4_H => exact bitR .o4 .H
  | bit_4_L => exact bitR .o4 .L
  | bit_4_mHL => exact bitM .o4
  | bit_4_A => exact bitR .o4 .A
  | bit_5_B => exact bitR .o5 .B
  | bit_5_C => exact bitR .o5 .C
  | bit_5_D => exact bitR .o5 .D
  | bit_5_E => exact bitR .o5 .E
  | bit_5_H => exact bitR .o5 .H
  | bit_5_L => exact bitR .o5 .L
  | bit_5_mHL => exact bitM .o5
  | bit_5_A => exact bitR .o5 .A
  | bit_6_B => exact bitR .o6 .B
  | bit_6_C => exact bitR .o6 .C
  | bit_6_D => exact bitR .o6 .D
  | bit_6_E => exact bitR .o6 .E
  | bit_6_H => exact bitR .o6 .H
  | bit_6_L => exact bitR .o6 .L
  | bit_6_mHL => exact bitM .o6
  | bit_6_A => exact bitR .o6 .A
  | bit_7_B => exact bitR .o7 .B
  | bit_7_C => exact bitR .o7 .C
  | bit_7_D => exact bitR .o7 .D
  | bit_7_E => exact bitR .o7 .E
  | bit_7_H => exact bitR .o7 .H
  | bit_7_L => exact bitR .o7 .L
  | bit_7_mHL => exact bitM .o7
  | bit_7_A => exact bitR .o7 .A
  | res_0_B => exact resR .o0 .B
  | res_0_C => exact resR .o0 .C
  | res_0_D => exact resR .o0 .D
  | res_0_E => exact resR .o0 .E
  | res_0_H => exact resR .o0 .H
  | res_0_L => exact resR .o0 .L
  | res_0_mHL => exact resM .o0
  | res_0_A => exact resR .o0 .A
  | res_1_B => exact resR .o1 .B
  | res_1_C => exact resR .o1 .C
  | res_1_D => exact resR .o1 .D
  | res_1_E => exact resR .o1 .E
  | res_1_H => exact resR .o1 .H
  | res_1_L => exact resR .o1 .L
  | res_1_mHL => exact resM .o1
  | res_1_A => exact resR .o1 .A
  | res_2_B => exact resR .o2 .B
  | res_2_C => exact resR .o2 .C
  | res_2_D => exact resR .o2 .D
  | res_2_E => exact resR .o2 .E
  | res_2_H => exact resR .o2 .H
  | res_2_L => exact resR .o2 .L
  | res_2_mHL => exact resM .o2
  | res_2_A => exact resR .o2 .A
  | res_3_B => exact resR .o3 .B
  | res_3_C => exact resR .o3 .C
  | res_3_D => exact resR .o3 .D
  | res_3_E => exact resR .o3 .E
  | res_3_H => exact resR .o3 .H
  | res_3_L => exact resR .o3 .L
  | res_3_mHL => exact resM .o3
  | res_3_A => exact resR .o3 .A
  | res_4_B => exact resR .o4 .B
  | res_4_C => exact resR .o4 .C
  | res_4_D => exact resR .o4 .D
  | res_4_E => exact resR .o4 .E
  | res_4_H => exact resR .o4 .H
  | res_4_L => exact resR .o4 .L
  | res_4_mHL => exact resM .o4
  | res_4_A => exact resR .o4 .A
  | res_5_B => exact resR .o5 .B
  | res_5_C => exact resR .o5 .C
  | res_5_D => exact resR .o5 .D
  | res_5_E => exact resR .o5 .E
  | res_5_H => exact resR .o5 .H
  | res_5_L => exact resR .o5 .L
  | res_5_mHL => exact resM .o5
  | res_5_A => exact resR .o5 .A
  | res_6_B => exact resR .o6 .B
  | res_6_C => exact resR .o6 .C
  | res_6_D => exact resR .o6 .D
  | res_6_E => exact resR .o6 .E
  | res_6_H => exact resR .o6 .H
  | res_6_L => exact resR .o6 .L
  | res_6_mHL => exact resM .o6
  | res_6_A => exact resR .o6 .A
  | res_7_B => exact resR .o7 .B
  | res_7_C => exact resR .o7 .C
  | res_7_D => exact resR .o7 .D
  | res_7_E => exact resR .o7 .E
  | res_7_H => exact resR .o7 .H
  | res_7_L => exact resR .o7 .L
  | res_7_mHL => exact resM .o7
  | res_7_A => exact resR .o7 .A
  | set_0_B => exact setR .o0 .B
  | set_0_C => exact setR .o0 .C
  | set_0_D => exact setR .o0 .D
  | set_0_E => exact setR .o0 .E
  | set_0_H => exact setR .o0 .H
  | set_0_L => exact setR .o0 .L
  | set_0_mHL => exact setM .o0
  | set_0_A => exact setR .o0 .A
  | set_1_B => exact setR .o1 .B
  | set_1_C => exact setR .o1 .C
  | set_1_D => exact setR .o1 .D
  | set_1_E => exact setR .o1 .E
  | set_1_H => exact setR .o1 .H
  | set_1_L => exact setR .o1 .L
  | set_1_mHL => exact setM .o1
  | set_1_A => exact setR .o1 .A
  | set_2_B => exact setR .o2 .B
  | set_2_C => exact setR .o2 .C
  | set_2_D => exact setR .o2 .D
  | set_2_E => exact setR .o2 .E
  | set_2_H => exact setR .o2 .H
  | set_2_L => exact setR .o2 .L
  | set_2_mHL => exact setM .o2
  | set_2_A => exact setR .o2 .A
  | set_3_B => exact setR .o3 .B
  | set_3_C => exact setR .o3 .C
  | set_3_D => exact setR .o3 .D
  | set_3_E => exact setR .o3 .E
  | set_3_H => exact setR .o3 .H
  | set_3_L => exact setR .o3 .L
  | set_3_mHL => exact setM .o3
  | set_3_A => exact setR .o3 .A
  | set_4_B => exact setR .o4 .B
  | set_4_C => exact setR .o4 .C
  | set_4_D => exact setR .o4 .D
  | set_4_E => exact setR .o4 .E
  | set_4_H => exact setR .o4 .H
  | set_4_L => exact setR .o4 .L
  | set_4_mHL => exact setM .o4
  | set_4_A => exact setR .o4 .A
  | set_5_B => exact setR .o5 .B
  | set_5_C => exact setR .o5 .C
  | set_5_D => exact setR .o5 .D
  | set_5_E => exact setR .o5 .E
  | set_5_H => exact setR .o5 .H
  | set_5_L => exact setR .o5 .L
  | set_5_mHL => exact setM .o5
  | set_5_A => exact setR .o5 .A
  | set_6_B => exact setR .o6 .B
  | set_6_C => exact setR .o6 .C
  | set_6_D => exact setR .o6 .D
  | set_6_E => exact setR .o6 .E
  | set_6_H => exact setR .o6 .H
  | set_6_L => exact setR .o6 .L
  | set_6_mHL => exact setM .o6
  | set_6_A => exact setR .o6 .A
  | set_7_B => exact setR .o7 .B
  | set_7_C => exact setR .o7 .C
  | set_7_D => exact setR .o7 .D
  | set_7_E => exact setR .o7 .E
  | set_7_H => exact setR .o7 .H
  | set_7_L => exact setR .o7 .L
  | set_7_mHL => exact setM .o7
  | set_7_A => exact setR .o7 .A

namespace Machine

theorem exec_ldRR (d r : R8) (s : State) : exec (Instr.ldRR d r) s = .next (opLdRR d r s) := by
  cases d <;> cases r <;> rfl

theorem exec_ldRN (r : R8) (n : Byte) (s : State) : exec (Instr.ldRN r n) s = .next (opLdRN r n s) := by
  cases r <;> rfl

theorem exec_ldRM (r : R8) (s : State) : exec (Instr.ldRM r) s = .next (opLdRM r s) := by
  cases r <;> rfl

theorem exec_ldMR (r : R8) (s : State) : exec (Instr.ldMR r) s = .next (opLdMR r s) := by
  cases r <;> rfl

theorem exec_ldRRnn (rr : R16) (nn : Word) (s : State) : exec (Instr.ldRRnn rr nn) s = .next (s.set16 rr nn) := by
  cases rr <;> rfl

theorem exec_pushRR (rr : R16Stk) (s : State) : exec (Instr.pushRR rr) s = .next (opPush rr s) := by
  cases rr <;> rfl

theorem exec_popRR (rr : R16Stk) (s : State) : exec (Instr.popRR rr) s = .next (opPop rr s) := by
  cases rr <;> rfl

theorem exec_aluR (op : AluOp) (r : R8) (s : State) : exec (Instr.aluR op r) s = .next (opAlu op (s.get8 r) s) := by
  cases op <;> cases r <;> rfl

theorem exec_aluM (op : AluOp) (s : State) : exec (Instr.aluM op) s = .next (opAluM op s) := by
  cases op <;> rfl

theorem exec_aluN (op : AluOp) (n : Byte) (s : State) : exec (Instr.aluN op n) s = .next (opAlu op n s) := by
  cases op <;> rfl

theorem exec_incR (r : R8) (s : State) : exec (Instr.incR r) s = .next (opIncR r s) := by
  cases r <;> rfl

theorem exec_decR (r : R8) (s : State) : exec (Instr.decR r) s = .next (opDecR r s) := by
  cases r <;> rfl

theorem exec_addHLRR (rr : R16) (s : State) : exec (Instr.addHLRR rr) s = .next (opAddHl rr s) := by
  cases rr <;> rfl

theorem exec_incRR (rr : R16) (s : State) : exec (Instr.incRR rr) s = .next (idleM (s.set16 rr (s.cpu.get16 rr + 1#16))) := by
  cases rr <;> rfl

theorem exec_decRR (rr : R16) (s : State) : exec (Instr.decRR rr) s = .next (idleM (s.set16 rr (s.cpu.get16 rr - 1#16))) := by
  cases rr <;> rfl

theorem exec_rotR (op : RotOp) (r : R8) (s : State) : exec (Instr.rotR op r) s = .next (opRot op r s) := by
  cases op <;> cases r <;> rfl

theorem exec_rotM (op : RotOp) (s : State) : exec (Instr.rotM op) s = .next (opRmw (rotFlags op) s) := by
  cases op <;> rfl

theorem exec_bitR (b : Oct) (r : R8) (s : State) : exec (Instr.bitR b r) s = .next (opBit b.toNat (s.get8 r) s) := by
  cases b <;> cases r <;> rfl

theorem exec_bitM (b : Oct) (s : State) : exec (Instr.bitM b) s = .next (opBitM b.toNat s) := by
  cases b <;> rfl

theorem exec_resR (b : Oct) (r : R8) (s : State) : exec (Instr.resR b r) s = .next (s.set8 r (resBit (s.get8 r) b.toNat)) := by
  cases b <;> cases r <;> rfl

theorem exec_resM (b : Oct) (s : State) : exec (Instr.resM b) s = .next (opPutM (fun v => resBit v b.toNat) s) := by
  cases b <;> rfl

theorem exec_setR (b : Oct) (r : R8) (s : State) : exec (Instr.setR b r) s = .next (s.set8 r (setBit (s.get8 r) b.toNat)) := by
  cases b <;> cases r <;> rfl

theorem exec_setM (b : Oct) (s : State) : exec (Instr.setM b) s = .next (opPutM (fun v => setBit v b.toNat) s) := by
  cases b <;> rfl

theorem exec_jpCC (cc : Cond) (nn : Word) (s : State) : exec (Instr.jpCC cc nn) s = .next (opIf cc (opJump nn) s) := by
  cases cc <;> rfl

theorem exec_jrCC (cc : Cond) (e : Byte) (s : State) : exec (Instr.jrCC cc e) s = .next (opIf cc (opJumpRel e) s) := by
  cases cc <;> rfl

theorem exec_callCC (cc : Cond) (nn : Word) (s : State) : exec (Instr.callCC cc nn) s = .next (opIf cc (opCall nn) s) := by
  cases cc <;> rfl

theorem exec_retCC (cc : Cond) (s : State) : exec (Instr.retCC cc) s = .next (opIf cc opRet (idleM s)) := by
  cases cc <;> rfl

theorem exec_rst (y : Oct) (s : State) : exec (Instr.rst y) s = .next (opCall (BitVec.ofNat 16 (y.toNat * 8)) s) := by
  cases y <;> rfl

theorem exec_nop (s : State) : exec Instr.nop s = .next (s) := rfl

theorem exec_ld_mBC_A (s : State) : exec Instr.ld_mBC_A s = .next (opStA s.cpu.bc s) := rfl

theorem exec_rlca (s : State) : exec Instr.rlca s = .next (opOnA (rotAFlags .rlc) s) := rfl

theorem exec_ld_mnn_SP (nn : Word) (s : State) : exec (Instr.ld_mnn_SP nn) s = .next (opStSp nn s) := rfl

theorem exec_ld_A_mBC (s : State) : exec Instr.ld_A_mBC s = .next (opLdA s.cpu.bc s) := rfl

theorem exec_rrca (s : State) : exec Instr.rrca s = .next (opOnA (rotAFlags .rrc) s) := rfl

theorem exec_stop (pad : Byte) (s : State) : exec (Instr.stop pad) s = .next (opStop s) := rfl

theorem exec_ld_mDE_A (s : State) : exec Instr.ld_mDE_A s = .next (opStA s.cpu.de s) := rfl

theorem exec_rla (s : State) : exec Instr.rla s = .next (opOnA (rotAFlags .rl) s) := rfl

theorem exec_jr_e (e : Byte) (s : State) : exec (Instr.jr_e e) s = .next (opJumpRel e s) := rfl

theorem exec_ld_A_mDE (s : State) : exec Instr.ld_A_mDE s = .next (opLdA s.cpu.de s) := rfl

theorem exec_rra (s : State) : exec Instr.rra s = .next (opOnA (rotAFlags .rr) s) := rfl

theorem exec_ld_mHLinc_A (s : State) : exec Instr.ld_mHLinc_A s = .next ((opStA s.cpu.hl s).setHl (s.cpu.hl + 1#16)) := rfl

theorem exec_daa (s : State) : exec Instr.daa s = .next (opOnA daa s) := rfl

theorem exec_ld_A_mHLinc (s : State) : exec Instr.ld_A_mHLinc s = .next ((opLdA s.cpu.hl s).setHl (s.cpu.hl + 1#16)) := rfl

theorem exec_cpl (s : State) : exec Instr.cpl s = .next (opOnA (fun a f => (~~~a, cplFlags f)) s) := rfl

theorem exec_ld_mHLdec_A (s : State) : exec Instr.ld_mHLdec_A s = .next ((opStA s.cpu.hl s).setHl (s.cpu.hl - 1#16)) := rfl

theorem exec_inc_mHL (s : State) : exec Instr.inc_mHL s = .next (opRmw inc8 s) := rfl

theorem exec_dec_mHL (s : State) : exec Instr.dec_mHL s = .next (opRmw dec8 s) := rfl

theorem exec_ld_mHL_n (n : Byte) (s : State) : exec (Instr.ld_mHL_n n) s = .next (writeHL s n) := rfl

theorem exec_scf (s : State) : exec Instr.scf s = .next (s.setF (scfFlags s.cpu.f)) := rfl

theorem exec_ld_A_mHLdec (s : State) : exec Instr.ld_A_mHLdec s = .next ((opLdA s.cpu.hl s).setHl (s.cpu.hl - 1#16)) := rfl

theorem exec_ccf (s : State) : exec Instr.ccf s = .next (s.setF (ccfFlags s.cpu.f)) := rfl

theorem exec_halt (s : State) : exec Instr.halt s = .next (s.setHalt true) := rfl

theorem exec_jp_nn (nn : Word) (s : State) : exec (Instr.jp_nn nn) s = .next (opJump nn s) := rfl

theorem exec_ret (s : State) : exec Instr.ret s = .next (opRet s) := rfl

theorem exec_call_nn (nn : Word) (s : State) : exec (Instr.call_nn nn) s = .next (opCall nn s) := rfl

theorem exec_reti (s : State) : exec Instr.reti s = .next (returnFromInterrupt s) := rfl

theorem exec_ldh_mn_A (n : Byte) (s : State) : exec (Instr.ldh_mn_A n) s = .next (opStA (highPage n) s) := rfl

theorem exec_ldh_mC_A (s : State) : exec Instr.ldh_mC_A s = .next (opStA (highPage s.cpu.c) s) := rfl

theorem exec_add_SP_e (e : Byte) (s : State) : exec (Instr.add_SP_e e) s = .next (opAddSpE e s) := rfl

theorem exec_jp_HL (s : State) : exec Instr.jp_HL s = .next (s.setPc s.cpu.hl) := rfl

theorem exec_ld_mnn_A (nn : Word) (s : State) : exec (Instr.ld_mnn_A nn) s = .next (opStA nn s) := rfl

theorem exec_ldh_A_mn (n : Byte) (s : State) : exec (Instr.ldh_A_mn n) s = .next (opLdA (highPage n) s) := rfl

theorem exec_ldh_A_mC (s : State) : exec Instr.ldh_A_mC s = .next (opLdA (highPage s.cpu.c) s) := rfl

theorem exec_di (s : State) : exec Instr.di s = .next ((s.setIme false).setImePending false) := rfl

theorem exec_ld_HL_SPe (e : Byte) (s : State) : exec (Instr.ld_HL_SPe e) s = .next (opLdHlSpE e s) := rfl

theorem exec_ld_SP_HL (s : State) : exec Instr.ld_SP_HL s = .next (idleM (s.setSp s.cpu.hl)) := rfl

theorem exec_ld_A_mnn (nn : Word) (s : State) : exec (Instr.ld_A_mnn nn) s = .next (opLdA nn s) := rfl

theorem exec_ei (s : State) : exec Instr.ei s = .next (s.setImePending true) := rfl

theorem exec_illegal (i : Instr) (h : i.isIllegal = true) (s : State) : exec i s = .next (raiseIllegal s) := by
  cases i <;> first | exact Bool.noConfusion h | rfl

theorem exec_prefixCB (s : State) : exec Instr.prefixCB s = execPrefixed (fetch8 s).1 (fetch8 s).2 := rfl

end Machine

end Sys2Proof
end

