-- ==== Sys2Proof/Laws/Decode.lean ====
section
/-! SUPPORT. What the decoder gives: a whole instruction for every byte, and never the lone prefix. -/
namespace Sys2Proof

theorem decodeX0_wellFormed (y z : Oct) (n : Byte) (nn : Word) : (decodeX0 y z n nn).wellFormed = true := by
  cases z <;> cases y <;> rfl

theorem decodeX1_wellFormed (y z : Oct) : (decodeX1 y z).wellFormed = true := by
  cases z <;> cases y <;> rfl

theorem decodeX2_wellFormed (y z : Oct) : (decodeX2 y z).wellFormed = true := by
  cases z <;> cases y <;> rfl

theorem rotR_wellFormed (op : RotOp) (r : R8) : (Instr.rotR op r).wellFormed = true := by cases op <;> cases r <;> rfl
theorem rotM_wellFormed (op : RotOp) : (Instr.rotM op).wellFormed = true := by cases op <;> rfl
theorem bitR_wellFormed (b : Oct) (r : R8) : (Instr.bitR b r).wellFormed = true := by cases b <;> cases r <;> rfl
theorem bitM_wellFormed (b : Oct) : (Instr.bitM b).wellFormed = true := by cases b <;> rfl
theorem resR_wellFormed (b : Oct) (r : R8) : (Instr.resR b r).wellFormed = true := by cases b <;> cases r <;> rfl
theorem resM_wellFormed (b : Oct) : (Instr.resM b).wellFormed = true := by cases b <;> rfl
theorem setR_wellFormed (b : Oct) (r : R8) : (Instr.setR b r).wellFormed = true := by cases b <;> cases r <;> rfl
theorem setM_wellFormed (b : Oct) : (Instr.setM b).wellFormed = true := by cases b <;> rfl

theorem decodePrefixed_wellFormed (op2 : Byte) : (decodePrefixed op2).wellFormed = true := by
  unfold decodePrefixed
  split
  · exact rotR_wellFormed ..
  · exact rotM_wellFormed ..
  · exact bitR_wellFormed ..
  · exact bitM_wellFormed ..
  · exact resR_wellFormed ..
  · exact resM_wellFormed ..
  · exact setR_wellFormed ..
  · exact setM_wellFormed ..

theorem decodeX3_wellFormed (y z : Oct) (n : Byte) (nn : Word) : (decodeX3 y z n nn).wellFormed = true := by
  have hp := decodePrefixed_wellFormed n
  cases z <;> cases y <;> first | exact hp | rfl

/-- Every opcode byte, with any two bytes after it, is a whole instruction (30_encoding.md R171 to R176). -/
theorem decodeInstr_wellFormed (op n1 n2 : Byte) : (decodeInstr op n1 n2).wellFormed = true := by
  unfold decodeInstr
  split
  · exact decodeX0_wellFormed ..
  · exact decodeX1_wellFormed ..
  · exact decodeX2_wellFormed ..
  · exact decodeX3_wellFormed ..

theorem opLength_cases (op : Byte) : opLength op = 1 ∨ opLength op = 2 ∨ opLength op = 3 := by
  unfold opLength
  split
  · exact .inr (.inr rfl)
  · split
    · exact .inr (.inl rfl)
    · exact .inl rfl

theorem fetchInstr_wellFormed (s : Machine.State) : (Machine.fetchInstr s).1.wellFormed = true := by
  unfold Machine.fetchInstr
  dsimp only
  split <;> exact decodeInstr_wellFormed ..

end Sys2Proof
end

