-- ==== Sys2Proof/Laws/Exec.lean ====
section
/-! SUPPORT. What one instruction can do to everything but the CPU, said once: it passes time, and it makes the stores that
`Instr.stores` lists (00_scope.md R11); STOP also resets the divider and may switch the speed. -/
namespace Sys2Proof.Machine

/-- The four shapes of an instruction's effect; `t` has CPU fields of its own, which the families' equations give. -/
inductive ExecShape (i : Instr) (s t : State) : Prop where
  /-- no store: its M-cycles pass -/
  | pass (n : Nat) (hs : i.stores s = []) (hc : i.cyclesAfterFetch s.cpu.f = n) (e : t = withCpu (passM n s) t.cpu)
  /-- STOP -/
  | stop (pad : Byte) (hi : i = .stop pad) (e : t = opStop s)
  /-- one store, in its last M-cycle -/
  | one (k : Nat) (x : BusStore) (hs : i.stores s = [x]) (hx : x.at_ = passM k s)
      (hc : i.cyclesAfterFetch s.cpu.f = k + 1) (e : t = withCpu (memWrite x.at_ x.addr x.val) t.cpu)
  /-- two stores, in its last two M-cycles -/
  | two (k : Nat) (x y : BusStore) (hs : i.stores s = [x, y]) (hx : x.at_ = passM k s)
      (hy : y.at_ = memWrite x.at_ x.addr x.val) (hc : i.cyclesAfterFetch s.cpu.f = k + 2)
      (e : t = withCpu (memWrite y.at_ y.addr y.val) t.cpu)

/-- The instruction answers a next state of one of the shapes. -/
def Shaped (i : Instr) : Prop := ∀ s, ∃ t, exec i s = .next t ∧ ExecShape i s t

theorem advanceM_set16 (s : State) (rr : R16) (v : Word) : advanceM (s.set16 rr v) = (advanceM s).set16 rr v := by
  unfold State.set16; rw [advanceM_cpu]; exact advanceM_withCpu s _

theorem memWrite_at (x : BusStore) {s : State} {a : Word} {v : Byte} (h : x = ⟨s, a, v⟩) :
    memWrite x.at_ x.addr x.val = memWrite s a v := by rw [h]

theorem pushStores_eq (s : State) (v : Word) : pushStores s v =
    [⟨s, s.cpu.sp - 1#16, hiByte v⟩,
     ⟨memWrite s (s.cpu.sp - 1#16) (hiByte v), s.cpu.sp - 2#16, loByte v⟩] := rfl

theorem opCall_eq (nn : Word) (s : State) : opCall nn s =
    ((memWrite (memWrite (advanceM s) (s.cpu.sp - 1#16) (hiByte s.cpu.pc)) (s.cpu.sp - 2#16)
      (loByte s.cpu.pc)).setSp (s.cpu.sp - 2#16)).setPc nn := by
  unfold opCall idleM; rw [push16_eq, advanceM_cpu]

theorem opRet_eq (s : State) : opRet s = ((passM 3 s).setSp (s.cpu.sp + 2#16)).setPc
    (pair (busRead (advanceM s) (s.cpu.sp + 1#16)) (busRead s s.cpu.sp)) := by
  unfold opRet idleM; rw [pop16_eq]; simp only [advanceM_setPc, advanceM_setSp, passM]

theorem returnFromInterrupt_eq (s : State) : returnFromInterrupt s = (opRet s).setIme true := rfl

theorem setIme_sameButCpu {u t : State} (b : Bool) (e : t = withCpu u t.cpu) :
    t.setIme b = withCpu u (t.setIme b).cpu := by
  generalize t.cpu = c at e
  subst e
  rfl

theorem opJump_eq (nn : Word) (s : State) : opJump nn s = (advanceM s).setPc nn := by
  unfold opJump idleM; rw [advanceM_setPc]

theorem shape_call (i : Instr) (s : State) (nn : Word) (hs : i.stores s = pushStores (advanceM s) s.cpu.pc)
    (hc : i.cyclesAfterFetch s.cpu.f = 3) : ExecShape i s (opCall nn s) := by
  rw [pushStores_eq, advanceM_cpu] at hs
  exact .two 1 _ _ hs rfl rfl hc (by rw [opCall_eq]; rfl)

theorem shape_rmw (i : Instr) (s : State) (op : Byte → Flags → Byte × Flags)
    (hs : i.stores s = [⟨advanceM s, s.cpu.hl, (op (busRead s s.cpu.hl) s.cpu.f).1⟩])
    (hc : i.cyclesAfterFetch s.cpu.f = 2) : ExecShape i s (opRmw op s) :=
  .one 1 _ hs rfl hc (by unfold opRmw readHL memRead writeHL; dsimp only; rw [advanceM_cpu]; rfl)

theorem shape_putM (i : Instr) (s : State) (op : Byte → Byte)
    (hs : i.stores s = [⟨advanceM s, s.cpu.hl, op (busRead s s.cpu.hl)⟩])
    (hc : i.cyclesAfterFetch s.cpu.f = 2) : ExecShape i s (opPutM op s) :=
  .one 1 _ hs rfl hc (by unfold opPutM readHL memRead writeHL; dsimp only; rw [advanceM_cpu])

theorem shape_stA (i : Instr) (s : State) (a : Word) (hs : i.stores s = [⟨s, a, s.cpu.a⟩])
    (hc : i.cyclesAfterFetch s.cpu.f = 1) : ExecShape i s (opStA a s) :=
  .one 0 _ hs rfl hc rfl

theorem shape_ret (i : Instr) (s : State) (hs : i.stores s = []) (hc : i.cyclesAfterFetch s.cpu.f = 3) :
    ExecShape i s (opRet s) := .pass 3 hs hc (by rw [opRet_eq]; rfl)

theorem inc8_res (v : Byte) (f : Flags) : (inc8 v f).1 = v + 1#8 := by
  show BitVec.ofNat 8 (v.toNat + 1 + 0) = _
  rw [← BitVec.toNat_inj]; simp

theorem dec8_res (v : Byte) (f : Flags) : (dec8 v f).1 = v - 1#8 := by
  show BitVec.ofInt 8 ((v.toNat : Int) - 1 - 0) = _
  revert v; decide

theorem shape_push (s : State) (rr : R16Stk) : ExecShape (Instr.pushRR rr) s (opPush rr s) := by
  have hs : (Instr.pushRR rr).stores s = pushStores (advanceM s) (s.cpu.getStk rr) := by cases rr <;> rfl
  rw [pushStores_eq, advanceM_cpu] at hs
  exact .two 1 _ _ hs rfl rfl (by cases rr <;> rfl) (by unfold opPush idleM; rw [push16_eq, advanceM_cpu]; rfl)

theorem shape_stSp (s : State) (nn : Word) : ExecShape (Instr.ld_mnn_SP nn) s (opStSp nn s) := by
  have hs : (Instr.ld_mnn_SP nn).stores s =
      [⟨s, nn, loByte s.cpu.sp⟩, ⟨memWrite s nn (loByte s.cpu.sp), nn + 1#16, hiByte s.cpu.sp⟩] := rfl
  exact .two 0 _ _ hs rfl rfl rfl rfl

theorem shape_jpCC (s : State) (cc : Cond) (nn : Word) : ExecShape (Instr.jpCC cc nn) s (opIf cc (opJump nn) s) := by
  have hc : (Instr.jpCC cc nn).cyclesAfterFetch s.cpu.f = if s.cpu.f.cond cc then 1 else 0 := by
    cases cc <;> unfold Flags.cond <;> dsimp only [Instr.jpCC, Instr.cyclesAfterFetch] <;>
      first | (cases s.cpu.f.z <;> rfl) | (cases s.cpu.f.c <;> rfl)
  have hs : (Instr.jpCC cc nn).stores s = [] := by
    cases cc <;> rfl
  unfold opIf
  split
  · rename_i h; rw [if_pos h] at hc
    exact .pass 1 hs hc (by rw [opJump_eq]; rfl)
  · rename_i h; rw [if_neg h] at hc
    exact .pass 0 hs hc rfl

theorem shape_jrCC (s : State) (cc : Cond) (e : Byte) : ExecShape (Instr.jrCC cc e) s (opIf cc (opJumpRel e) s) := by
  have hc : (Instr.jrCC cc e).cyclesAfterFetch s.cpu.f = if s.cpu.f.cond cc then 1 else 0 := by
    cases cc <;> unfold Flags.cond <;> dsimp only [Instr.jrCC, Instr.cyclesAfterFetch] <;>
      first | (cases s.cpu.f.z <;> rfl) | (cases s.cpu.f.c <;> rfl)
  have hs : (Instr.jrCC cc e).stores s = [] := by
    cases cc <;> rfl
  unfold opIf
  split
  · rename_i h; rw [if_pos h] at hc
    exact .pass 1 hs hc (by unfold opJumpRel; rw [opJump_eq]; rfl)
  · rename_i h; rw [if_neg h] at hc
    exact .pass 0 hs hc rfl

theorem shape_callCC (s : State) (cc : Cond) (nn : Word) : ExecShape (Instr.callCC cc nn) s (opIf cc (opCall nn) s) := by
  have hc : (Instr.callCC cc nn).cyclesAfterFetch s.cpu.f = if s.cpu.f.cond cc then 3 else 0 := by
    cases cc <;> unfold Flags.cond <;> dsimp only [Instr.callCC, Instr.cyclesAfterFetch] <;>
      first | (cases s.cpu.f.z <;> rfl) | (cases s.cpu.f.c <;> rfl)
  have hs : (Instr.callCC cc nn).stores s = if s.cpu.f.cond cc then pushStores (advanceM s) s.cpu.pc else [] := by
    cases cc <;> first | rfl | (unfold Flags.cond; dsimp only [Instr.callCC, Instr.stores]; (first | (cases s.cpu.f.z <;> rfl) | (cases s.cpu.f.c <;> rfl)))
  unfold opIf
  split
  · rename_i h; rw [if_pos h] at hc hs
    exact shape_call _ s nn hs hc
  · rename_i h; rw [if_neg h] at hc hs
    exact .pass 0 hs hc rfl

theorem shape_retCC (s : State) (cc : Cond) : ExecShape (Instr.retCC cc) s (opIf cc opRet (idleM s)) := by
  have hc : (Instr.retCC cc).cyclesAfterFetch s.cpu.f = if s.cpu.f.cond cc then 4 else 1 := by
    cases cc <;> unfold Flags.cond <;> dsimp only [Instr.retCC, Instr.cyclesAfterFetch] <;>
      first | (cases s.cpu.f.z <;> rfl) | (cases s.cpu.f.c <;> rfl)
  have hs : (Instr.retCC cc).stores s = [] := by cases cc <;> rfl
  unfold opIf
  split
  · rename_i h
    rw [idleM_cpu] at h
    rw [if_pos h] at hc
    exact .pass 4 hs hc (by rw [opRet_eq]; rfl)
  · rename_i h
    rw [idleM_cpu] at h
    rw [if_neg h] at hc
    exact .pass 1 hs hc rfl

theorem shaped_ldRR (d r : R8) : Shaped (Instr.ldRR d r) := fun s => ⟨_, exec_ldRR d r s, .pass 0 (by cases d <;> cases r <;> rfl) (by cases d <;> cases r <;> rfl) rfl⟩
theorem shaped_ldRN (r : R8) (n : Byte) : Shaped (Instr.ldRN r n) := fun s => ⟨_, exec_ldRN r n s, .pass 0 (by cases r <;> rfl) (by cases r <;> rfl) rfl⟩
theorem shaped_ldRM (r : R8) : Shaped (Instr.ldRM r) := fun s => ⟨_, exec_ldRM r s, .pass 1 (by cases r <;> rfl) (by cases r <;> rfl) rfl⟩
theorem shaped_ldMR (r : R8) : Shaped (Instr.ldMR r) := fun s => ⟨_, exec_ldMR r s, .one 0 ⟨s, s.cpu.hl, s.get8 r⟩ (by cases r <;> rfl) rfl (by cases r <;> rfl) rfl⟩
theorem shaped_ldRRnn (rr : R16) (nn : Word) : Shaped (Instr.ldRRnn rr nn) := fun s => ⟨_, exec_ldRRnn rr nn s, .pass 0 (by cases rr <;> rfl) (by cases rr <;> rfl) rfl⟩
theorem shaped_pushRR (rr : R16Stk) : Shaped (Instr.pushRR rr) := fun s => ⟨_, exec_pushRR rr s, shape_push s rr⟩
theorem shaped_popRR (rr : R16Stk) : Shaped (Instr.popRR rr) := fun s => ⟨_, exec_popRR rr s, .pass 2 (by cases rr <;> rfl) (by cases rr <;> rfl) (by unfold opPop; rw [pop16_eq]; rfl)⟩
theorem shaped_aluR (op : AluOp) (r : R8) : Shaped (Instr.aluR op r) := fun s => ⟨_, exec_aluR op r s, .pass 0 (by cases op <;> cases r <;> rfl) (by cases op <;> cases r <;> rfl) rfl⟩
theorem shaped_aluM (op : AluOp) : Shaped (Instr.aluM op) := fun s => ⟨_, exec_aluM op s, .pass 1 (by cases op <;> rfl) (by cases op <;> rfl) rfl⟩
theorem shaped_aluN (op : AluOp) (n : Byte) : Shaped (Instr.aluN op n) := fun s => ⟨_, exec_aluN op n s, .pass 0 (by cases op <;> rfl) (by cases op <;> rfl) rfl⟩
theorem shaped_incR (r : R8) : Shaped (Instr.incR r) := fun s => ⟨_, exec_incR r s, .pass 0 (by cases r <;> rfl) (by cases r <;> rfl) rfl⟩
theorem shaped_decR (r : R8) : Shaped (Instr.decR r) := fun s => ⟨_, exec_decR r s, .pass 0 (by cases r <;> rfl) (by cases r <;> rfl) rfl⟩
theorem shaped_addHLRR (rr : R16) : Shaped (Instr.addHLRR rr) := fun s => ⟨_, exec_addHLRR rr s, .pass 1 (by cases rr <;> rfl) (by cases rr <;> rfl) (by unfold opAddHl idleM; rw [advanceM_setF, advanceM_setHl]; rfl)⟩
theorem shaped_incRR (rr : R16) : Shaped (Instr.incRR rr) := fun s => ⟨_, exec_incRR rr s, .pass 1 (by cases rr <;> rfl) (by cases rr <;> rfl) (by unfold idleM; rw [advanceM_set16]; rfl)⟩
theorem shaped_decRR (rr : R16) : Shaped (Instr.decRR rr) := fun s => ⟨_, exec_decRR rr s, .pass 1 (by cases rr <;> rfl) (by cases rr <;> rfl) (by unfold idleM; rw [advanceM_set16]; rfl)⟩
theorem shaped_rotR (op : RotOp) (r : R8) : Shaped (Instr.rotR op r) := fun s => ⟨_, exec_rotR op r s, .pass 0 (by cases op <;> cases r <;> rfl) (by cases op <;> cases r <;> rfl) rfl⟩
theorem shaped_rotM (op : RotOp) : Shaped (Instr.rotM op) := fun s => ⟨_, exec_rotM op s, shape_rmw _ s _ (by cases op <;> rfl) (by cases op <;> rfl)⟩
theorem shaped_bitR (b : Oct) (r : R8) : Shaped (Instr.bitR b r) := fun s => ⟨_, exec_bitR b r s, .pass 0 (by cases b <;> cases r <;> rfl) (by cases b <;> cases r <;> rfl) rfl⟩
theorem shaped_bitM (b : Oct) : Shaped (Instr.bitM b) := fun s => ⟨_, exec_bitM b s, .pass 1 (by cases b <;> rfl) (by cases b <;> rfl) rfl⟩
theorem shaped_resR (b : Oct) (r : R8) : Shaped (Instr.resR b r) := fun s => ⟨_, exec_resR b r s, .pass 0 (by cases b <;> cases r <;> rfl) (by cases b <;> cases r <;> rfl) rfl⟩
theorem shaped_resM (b : Oct) : Shaped (Instr.resM b) := fun s => ⟨_, exec_resM b s, shape_putM _ s _ (by cases b <;> rfl) (by cases b <;> rfl)⟩
theorem shaped_setR (b : Oct) (r : R8) : Shaped (Instr.setR b r) := fun s => ⟨_, exec_setR b r s, .pass 0 (by cases b <;> cases r <;> rfl) (by cases b <;> cases r <;> rfl) rfl⟩
theorem shaped_setM (b : Oct) : Shaped (Instr.setM b) := fun s => ⟨_, exec_setM b s, shape_putM _ s _ (by cases b <;> rfl) (by cases b <;> rfl)⟩
theorem shaped_jpCC (cc : Cond) (nn : Word) : Shaped (Instr.jpCC cc nn) := fun s => ⟨_, exec_jpCC cc nn s, shape_jpCC s cc nn⟩
theorem shaped_jrCC (cc : Cond) (e : Byte) : Shaped (Instr.jrCC cc e) := fun s => ⟨_, exec_jrCC cc e s, shape_jrCC s cc e⟩
theorem shaped_callCC (cc : Cond) (nn : Word) : Shaped (Instr.callCC cc nn) := fun s => ⟨_, exec_callCC cc nn s, shape_callCC s cc nn⟩
theorem shaped_retCC (cc : Cond) : Shaped (Instr.retCC cc) := fun s => ⟨_, exec_retCC cc s, shape_retCC s cc⟩
theorem shaped_rst (y : Oct) : Shaped (Instr.rst y) := fun s => ⟨_, exec_rst y s, shape_call _ s _ (by cases y <;> rfl) (by cases y <;> rfl)⟩
theorem shaped_nop : Shaped Instr.nop := fun s => ⟨_, exec_nop s, .pass 0 rfl rfl rfl⟩
theorem shaped_ld_mBC_A : Shaped Instr.ld_mBC_A := fun s => ⟨_, exec_ld_mBC_A s, shape_stA _ s _ rfl rfl⟩
theorem shaped_rlca : Shaped Instr.rlca := fun s => ⟨_, exec_rlca s, .pass 0 rfl rfl rfl⟩
theorem shaped_ld_mnn_SP (nn : Word) : Shaped (Instr.ld_mnn_SP nn) := fun s => ⟨_, exec_ld_mnn_SP nn s, shape_stSp s nn⟩
theorem shaped_ld_A_mBC : Shaped Instr.ld_A_mBC := fun s => ⟨_, exec_ld_A_mBC s, .pass 1 rfl rfl rfl⟩
theorem shaped_rrca : Shaped Instr.rrca := fun s => ⟨_, exec_rrca s, .pass 0 rfl rfl rfl⟩
theorem shaped_stop (pad : Byte) : Shaped (Instr.stop pad) := fun s => ⟨_, exec_stop pad s, .stop pad rfl rfl⟩
theorem shaped_ld_mDE_A : Shaped Instr.ld_mDE_A := fun s => ⟨_, exec_ld_mDE_A s, shape_stA _ s _ rfl rfl⟩
theorem shaped_rla : Shaped Instr.rla := fun s => ⟨_, exec_rla s, .pass 0 rfl rfl rfl⟩
theorem shaped_jr_e (e : Byte) : Shaped (Instr.jr_e e) := fun s => ⟨_, exec_jr_e e s, .pass 1 rfl rfl (by unfold opJumpRel; rw [opJump_eq]; rfl)⟩
theorem shaped_ld_A_mDE : Shaped Instr.ld_A_mDE := fun s => ⟨_, exec_ld_A_mDE s, .pass 1 rfl rfl rfl⟩
theorem shaped_rra : Shaped Instr.rra := fun s => ⟨_, exec_rra s, .pass 0 rfl rfl rfl⟩
theorem shaped_ld_mHLinc_A : Shaped Instr.ld_mHLinc_A := fun s => ⟨_, exec_ld_mHLinc_A s, .one 0 ⟨s, s.cpu.hl, s.cpu.a⟩ rfl rfl rfl rfl⟩
theorem shaped_daa : Shaped Instr.daa := fun s => ⟨_, exec_daa s, .pass 0 rfl rfl rfl⟩
theorem shaped_ld_A_mHLinc : Shaped Instr.ld_A_mHLinc := fun s => ⟨_, exec_ld_A_mHLinc s, .pass 1 rfl rfl rfl⟩
theorem shaped_cpl : Shaped Instr.cpl := fun s => ⟨_, exec_cpl s, .pass 0 rfl rfl rfl⟩
theorem shaped_ld_mHLdec_A : Shaped Instr.ld_mHLdec_A := fun s => ⟨_, exec_ld_mHLdec_A s, .one 0 ⟨s, s.cpu.hl, s.cpu.a⟩ rfl rfl rfl rfl⟩
theorem shaped_inc_mHL : Shaped Instr.inc_mHL := fun s => ⟨_, exec_inc_mHL s, shape_rmw _ s _ (by rw [inc8_res]; rfl) rfl⟩
theorem shaped_dec_mHL : Shaped Instr.dec_mHL := fun s => ⟨_, exec_dec_mHL s, shape_rmw _ s _ (by rw [dec8_res]; rfl) rfl⟩
theorem shaped_ld_mHL_n (n : Byte) : Shaped (Instr.ld_mHL_n n) := fun s => ⟨_, exec_ld_mHL_n n s, .one 0 ⟨s, s.cpu.hl, n⟩ rfl rfl rfl rfl⟩
theorem shaped_scf : Shaped Instr.scf := fun s => ⟨_, exec_scf s, .pass 0 rfl rfl rfl⟩
theorem shaped_ld_A_mHLdec : Shaped Instr.ld_A_mHLdec := fun s => ⟨_, exec_ld_A_mHLdec s, .pass 1 rfl rfl rfl⟩
theorem shaped_ccf : Shaped Instr.ccf := fun s => ⟨_, exec_ccf s, .pass 0 rfl rfl rfl⟩
theorem shaped_halt : Shaped Instr.halt := fun s => ⟨_, exec_halt s, .pass 0 rfl rfl rfl⟩
theorem shaped_jp_nn (nn : Word) : Shaped (Instr.jp_nn nn) := fun s => ⟨_, exec_jp_nn nn s, .pass 1 rfl rfl (by rw [opJump_eq]; rfl)⟩
theorem shaped_ret : Shaped Instr.ret := fun s => ⟨_, exec_ret s, shape_ret _ s rfl rfl⟩
theorem shaped_call_nn (nn : Word) : Shaped (Instr.call_nn nn) := fun s => ⟨_, exec_call_nn nn s, shape_call _ s nn rfl rfl⟩
theorem shaped_reti : Shaped Instr.reti := fun s => ⟨_, exec_reti s, .pass 3 rfl rfl (setIme_sameButCpu true (show opRet s = withCpu (passM 3 s) (opRet s).cpu by rw [opRet_eq]; rfl))⟩
theorem shaped_ldh_mn_A (n : Byte) : Shaped (Instr.ldh_mn_A n) := fun s => ⟨_, exec_ldh_mn_A n s, shape_stA _ s _ rfl rfl⟩
theorem shaped_ldh_mC_A : Shaped Instr.ldh_mC_A := fun s => ⟨_, exec_ldh_mC_A s, shape_stA _ s _ rfl rfl⟩
theorem shaped_add_SP_e (e : Byte) : Shaped (Instr.add_SP_e e) := fun s => ⟨_, exec_add_SP_e e s, .pass 2 rfl rfl (by unfold opAddSpE idleM; simp only [advanceM_setF, advanceM_setSp]; rfl)⟩
theorem shaped_jp_HL : Shaped Instr.jp_HL := fun s => ⟨_, exec_jp_HL s, .pass 0 rfl rfl rfl⟩
theorem shaped_ld_mnn_A (nn : Word) : Shaped (Instr.ld_mnn_A nn) := fun s => ⟨_, exec_ld_mnn_A nn s, shape_stA _ s _ rfl rfl⟩
theorem shaped_ldh_A_mn (n : Byte) : Shaped (Instr.ldh_A_mn n) := fun s => ⟨_, exec_ldh_A_mn n s, .pass 1 rfl rfl rfl⟩
theorem shaped_ldh_A_mC : Shaped Instr.ldh_A_mC := fun s => ⟨_, exec_ldh_A_mC s, .pass 1 rfl rfl rfl⟩
theorem shaped_di : Shaped Instr.di := fun s => ⟨_, exec_di s, .pass 0 rfl rfl rfl⟩
theorem shaped_ld_HL_SPe (e : Byte) : Shaped (Instr.ld_HL_SPe e) := fun s => ⟨_, exec_ld_HL_SPe e s, .pass 1 rfl rfl (by unfold opLdHlSpE idleM; simp only [advanceM_setF, advanceM_setHl]; rfl)⟩
theorem shaped_ld_SP_HL : Shaped Instr.ld_SP_HL := fun s => ⟨_, exec_ld_SP_HL s, .pass 1 rfl rfl (by unfold idleM; rw [advanceM_setSp]; rfl)⟩
theorem shaped_ld_A_mnn (nn : Word) : Shaped (Instr.ld_A_mnn nn) := fun s => ⟨_, exec_ld_A_mnn nn s, .pass 1 rfl rfl rfl⟩
theorem shaped_ei : Shaped Instr.ei := fun s => ⟨_, exec_ei s, .pass 0 rfl rfl rfl⟩
theorem shaped_illegal (i : Instr) (hi : i.isIllegal = true) : Shaped i := fun s => ⟨_, exec_illegal i hi s,
  .pass 0 (by cases i <;> first | exact Bool.noConfusion hi | rfl) (by cases i <;> first | exact Bool.noConfusion hi | rfl) rfl⟩

/-- Every whole instruction answers a next state of one of the shapes. -/
theorem exec_shaped (i : Instr) : i.wellFormed = true → Shaped i :=
  Instr.byFamily (P := fun i => i.wellFormed = true → Shaped i)
    (fun d r _ => shaped_ldRR d r)
    (fun r n _ => shaped_ldRN r n)
    (fun r _ => shaped_ldRM r)
    (fun r _ => shaped_ldMR r)
    (fun rr nn _ => shaped_ldRRnn rr nn)
    (fun rr _ => shaped_pushRR rr)
    (fun rr _ => shaped_popRR rr)
    (fun op r _ => shaped_aluR op r)
    (fun op _ => shaped_aluM op)
    (fun op n _ => shaped_aluN op n)
    (fun r _ => shaped_incR r)
    (fun r _ => shaped_decR r)
    (fun rr _ => shaped_addHLRR rr)
    (fun rr _ => shaped_incRR rr)
    (fun rr _ => shaped_decRR rr)
    (fun op r _ => shaped_rotR op r)
    (fun op _ => shaped_rotM op)
    (fun b r _ => shaped_bitR b r)
    (fun b _ => shaped_bitM b)
    (fun b r _ => shaped_resR b r)
    (fun b _ => shaped_resM b)
    (fun b r _ => shaped_setR b r)
    (fun b _ => shaped_setM b)
    (fun cc nn _ => shaped_jpCC cc nn)
    (fun cc e _ => shaped_jrCC cc e)
    (fun cc nn _ => shaped_callCC cc nn)
    (fun cc _ => shaped_retCC cc)
    (fun y _ => shaped_rst y)
    (fun _ => shaped_nop)
    (fun _ => shaped_ld_mBC_A)
    (fun _ => shaped_rlca)
    (fun nn _ => shaped_ld_mnn_SP nn)
    (fun _ => shaped_ld_A_mBC)
    (fun _ => shaped_rrca)
    (fun pad _ => shaped_stop pad)
    (fun _ => shaped_ld_mDE_A)
    (fun _ => shaped_rla)
    (fun e _ => shaped_jr_e e)
    (fun _ => shaped_ld_A_mDE)
    (fun _ => shaped_rra)
    (fun _ => shaped_ld_mHLinc_A)
    (fun _ => shaped_daa)
    (fun _ => shaped_ld_A_mHLinc)
    (fun _ => shaped_cpl)
    (fun _ => shaped_ld_mHLdec_A)
    (fun _ => shaped_inc_mHL)
    (fun _ => shaped_dec_mHL)
    (fun n _ => shaped_ld_mHL_n n)
    (fun _ => shaped_scf)
    (fun _ => shaped_ld_A_mHLdec)
    (fun _ => shaped_ccf)
    (fun _ => shaped_halt)
    (fun nn _ => shaped_jp_nn nn)
    (fun _ => shaped_ret)
    (fun w => absurd w (by decide))
    (fun nn _ => shaped_call_nn nn)
    (fun _ => shaped_reti)
    (fun n _ => shaped_ldh_mn_A n)
    (fun _ => shaped_ldh_mC_A)
    (fun e _ => shaped_add_SP_e e)
    (fun _ => shaped_jp_HL)
    (fun nn _ => shaped_ld_mnn_A nn)
    (fun n _ => shaped_ldh_A_mn n)
    (fun _ => shaped_ldh_A_mC)
    (fun _ => shaped_di)
    (fun e _ => shaped_ld_HL_SPe e)
    (fun _ => shaped_ld_SP_HL)
    (fun nn _ => shaped_ld_A_mnn nn)
    (fun _ => shaped_ei)
    (fun i hi _ => shaped_illegal i hi) i

/-- The same, for the state that an instruction answers. -/
theorem exec_shape {i : Instr} {s t : State} (w : i.wellFormed = true) (h : exec i s = .next t) : ExecShape i s t := by
  obtain ⟨u, hu, hp⟩ := exec_shaped i w s
  rw [hu] at h; cases h; exact hp

end Sys2Proof.Machine
end

