-- ==== Sys2Proof/Laws/Step.lean ====
section
/-! SUPPORT. The induction over steps, packaged once: what every primitive keeps, every step keeps. -/
namespace Sys2Proof.Machine

/-- What the primitives of R11 keep. A property of the whole state with this is kept by every instruction and every
step (`Keeps.exec`, `Keeps.step`). -/
structure Keeps (P : State → Prop) : Prop where
  cpu : ∀ s c, P s → P { s with cpu := c }
  write : ∀ s a v, P s → P (busWrite s a v)
  time : ∀ s, P s → P (advanceM s)
  hdma : ∀ s, s.cgb = true → P s → P (hdmaCopyByte s)
  ack : ∀ (s : State) p, P s → P { s with irq := { s.irq with pend := p } }
  divReset : ∀ s, P s → P { s with timer := s.timer.divReset }
  speed : ∀ s, s.cgb = true → P s → P { s with speed := ⟨!s.speed.doubleSpeed, false⟩ }

namespace Keeps

variable {P : State → Prop} (K : Keeps P)
include K

theorem setPc {s : State} (v : Word) (h : P s) : P (s.setPc v) := K.cpu _ _ h
theorem setSp {s : State} (v : Word) (h : P s) : P (s.setSp v) := K.cpu _ _ h
theorem setIme {s : State} (v : Bool) (h : P s) : P (s.setIme v) := K.cpu _ _ h
theorem setImePending {s : State} (v : Bool) (h : P s) : P (s.setImePending v) := K.cpu _ _ h
theorem setHalt {s : State} (v : Bool) (h : P s) : P (s.setHalt v) := K.cpu _ _ h
theorem setStop {s : State} (v : Bool) (h : P s) : P (s.setStop v) := K.cpu _ _ h
theorem setA {s : State} (v : Byte) (h : P s) : P (s.setA v) := K.cpu _ _ h
theorem setF {s : State} (v : Flags) (h : P s) : P (s.setF v) := K.cpu _ _ h
theorem set8 {s : State} (r : R8) (v : Byte) (h : P s) : P (s.set8 r v) := K.cpu _ _ h
theorem set16 {s : State} (r : R16) (v : Word) (h : P s) : P (s.set16 r v) := K.cpu _ _ h
theorem setStk {s : State} (r : R16Stk) (v : Word) (h : P s) : P (s.setStk r v) := K.cpu _ _ h
theorem setHl {s : State} (v : Word) (h : P s) : P (s.setHl v) := K.cpu _ _ h

theorem memRead {s : State} (a : Word) (h : P s) : P (memRead s a).2 := K.time _ h
theorem memWrite {s : State} (a : Word) (v : Byte) (h : P s) : P (memWrite s a v) := K.time _ (K.write _ _ _ h)
theorem idleM {s : State} (h : P s) : P (idleM s) := K.time _ h
theorem fetch8 {s : State} (h : P s) : P (fetch8 s).2 := K.setPc _ (K.memRead _ h)
theorem push16 {s : State} (v : Word) (h : P s) : P (push16 s v) :=
  K.memWrite _ _ (K.setSp _ (K.memWrite _ _ (K.setSp _ h)))
theorem pop16 {s : State} (h : P s) : P (pop16 s).2 := K.setSp _ (K.memRead _ (K.setSp _ (K.memRead _ h)))
theorem readHL {s : State} (h : P s) : P (readHL s).2 := K.memRead _ h
theorem writeHL {s : State} (v : Byte) (h : P s) : P (writeHL s v) := K.memWrite _ _ h

omit K in
theorem opIf {s : State} (cc : Cond) {op : State → State} (h : P s) (ho : P (op s)) : P (opIf cc op s) := by
  unfold Machine.opIf; split <;> assumption
theorem opJump {s : State} (nn : Word) (h : P s) : P (opJump nn s) := K.idleM (K.setPc _ h)
theorem opCall {s : State} (nn : Word) (h : P s) : P (opCall nn s) := K.setPc _ (K.push16 _ (K.idleM h))
theorem opRet {s : State} (h : P s) : P (opRet s) := K.idleM (K.setPc _ (K.pop16 h))
theorem opLdA {s : State} (a : Word) (h : P s) : P (opLdA a s) := K.setA _ (K.memRead _ h)
theorem opStA {s : State} (a : Word) (h : P s) : P (opStA a s) := K.memWrite _ _ h
theorem opAlu {s : State} (op : AluOp) (v : Byte) (h : P s) : P (opAlu op v s) := K.setF _ (K.setA _ h)
theorem opOnA {s : State} (op : Byte → Flags → Byte × Flags) (h : P s) : P (opOnA op s) := K.setF _ (K.setA _ h)
theorem opRmw {s : State} (op : Byte → Flags → Byte × Flags) (h : P s) : P (opRmw op s) :=
  K.setF _ (K.writeHL _ (K.readHL h))
theorem opPutM {s : State} (op : Byte → Byte) (h : P s) : P (opPutM op s) := K.writeHL _ (K.readHL h)
theorem opStop {s : State} (h : P s) : P (opStop s) := by
  unfold Machine.opStop
  split
  · rename_i hc
    rw [Bool.and_eq_true] at hc
    exact K.speed { s with timer := s.timer.divReset } hc.1 (K.divReset _ h)
  · exact K.cpu { s with timer := s.timer.divReset } _ (K.divReset _ h)

end Keeps

/-- The instruction answers a next state that keeps the property. -/
def KeepsExec (P : State → Prop) (i : Instr) : Prop := ∀ s, P s → ∃ t, exec i s = .next t ∧ P t

namespace Keeps

variable {P : State → Prop} (K : Keeps P)
include K

theorem ex_ldRR (d r : R8) : KeepsExec P (Instr.ldRR d r) := fun s h => ⟨_, exec_ldRR d r s, K.set8 _ _ h⟩
theorem ex_ldRN (r : R8) (n : Byte) : KeepsExec P (Instr.ldRN r n) := fun s h => ⟨_, exec_ldRN r n s, K.set8 _ _ h⟩
theorem ex_ldRM (r : R8) : KeepsExec P (Instr.ldRM r) := fun s h => ⟨_, exec_ldRM r s, K.set8 _ _ (K.readHL h)⟩
theorem ex_ldMR (r : R8) : KeepsExec P (Instr.ldMR r) := fun s h => ⟨_, exec_ldMR r s, K.writeHL _ h⟩
theorem ex_ldRRnn (rr : R16) (nn : Word) : KeepsExec P (Instr.ldRRnn rr nn) := fun s h => ⟨_, exec_ldRRnn rr nn s, K.set16 _ _ h⟩
theorem ex_pushRR (rr : R16Stk) : KeepsExec P (Instr.pushRR rr) := fun s h => ⟨_, exec_pushRR rr s, K.push16 _ (K.idleM h)⟩
theorem ex_popRR (rr : R16Stk) : KeepsExec P (Instr.popRR rr) := fun s h => ⟨_, exec_popRR rr s, K.setStk _ _ (K.pop16 h)⟩
theorem ex_aluR (op : AluOp) (r : R8) : KeepsExec P (Instr.aluR op r) := fun s h => ⟨_, exec_aluR op r s, K.opAlu _ _ h⟩
theorem ex_aluM (op : AluOp) : KeepsExec P (Instr.aluM op) := fun s h => ⟨_, exec_aluM op s, K.opAlu _ _ (K.readHL h)⟩
theorem ex_aluN (op : AluOp) (n : Byte) : KeepsExec P (Instr.aluN op n) := fun s h => ⟨_, exec_aluN op n s, K.opAlu _ _ h⟩
theorem ex_incR (r : R8) : KeepsExec P (Instr.incR r) := fun s h => ⟨_, exec_incR r s, K.setF _ (K.set8 _ _ h)⟩
theorem ex_decR (r : R8) : KeepsExec P (Instr.decR r) := fun s h => ⟨_, exec_decR r s, K.setF _ (K.set8 _ _ h)⟩
theorem ex_addHLRR (rr : R16) : KeepsExec P (Instr.addHLRR rr) := fun s h => ⟨_, exec_addHLRR rr s, K.idleM (K.setF _ (K.setHl _ h))⟩
theorem ex_incRR (rr : R16) : KeepsExec P (Instr.incRR rr) := fun s h => ⟨_, exec_incRR rr s, K.idleM (K.set16 _ _ h)⟩
theorem ex_decRR (rr : R16) : KeepsExec P (Instr.decRR rr) := fun s h => ⟨_, exec_decRR rr s, K.idleM (K.set16 _ _ h)⟩
theorem ex_rotR (op : RotOp) (r : R8) : KeepsExec P (Instr.rotR op r) := fun s h => ⟨_, exec_rotR op r s, K.setF _ (K.set8 _ _ h)⟩
theorem ex_rotM (op : RotOp) : KeepsExec P (Instr.rotM op) := fun s h => ⟨_, exec_rotM op s, K.opRmw _ h⟩
theorem ex_bitR (b : Oct) (r : R8) : KeepsExec P (Instr.bitR b r) := fun s h => ⟨_, exec_bitR b r s, K.setF _ h⟩
theorem ex_bitM (b : Oct) : KeepsExec P (Instr.bitM b) := fun s h => ⟨_, exec_bitM b s, K.setF _ (K.readHL h)⟩
theorem ex_resR (b : Oct) (r : R8) : KeepsExec P (Instr.resR b r) := fun s h => ⟨_, exec_resR b r s, K.set8 _ _ h⟩
theorem ex_resM (b : Oct) : KeepsExec P (Instr.resM b) := fun s h => ⟨_, exec_resM b s, K.opPutM _ h⟩
theorem ex_setR (b : Oct) (r : R8) : KeepsExec P (Instr.setR b r) := fun s h => ⟨_, exec_setR b r s, K.set8 _ _ h⟩
theorem ex_setM (b : Oct) : KeepsExec P (Instr.setM b) := fun s h => ⟨_, exec_setM b s, K.opPutM _ h⟩
theorem ex_jpCC (cc : Cond) (nn : Word) : KeepsExec P (Instr.jpCC cc nn) := fun s h => ⟨_, exec_jpCC cc nn s, Keeps.opIf _ h (K.opJump _ h)⟩
theorem ex_jrCC (cc : Cond) (e : Byte) : KeepsExec P (Instr.jrCC cc e) := fun s h => ⟨_, exec_jrCC cc e s, Keeps.opIf _ h (K.opJump _ h)⟩
theorem ex_callCC (cc : Cond) (nn : Word) : KeepsExec P (Instr.callCC cc nn) := fun s h => ⟨_, exec_callCC cc nn s, Keeps.opIf _ h (K.opCall _ h)⟩
theorem ex_retCC (cc : Cond) : KeepsExec P (Instr.retCC cc) := fun s h => ⟨_, exec_retCC cc s, Keeps.opIf _ (K.idleM h) (K.opRet (K.idleM h))⟩
theorem ex_rst (y : Oct) : KeepsExec P (Instr.rst y) := fun s h => ⟨_, exec_rst y s, K.opCall _ h⟩
omit K in
theorem ex_nop : KeepsExec P Instr.nop := fun s h => ⟨_, exec_nop s, h⟩
theorem ex_ld_mBC_A : KeepsExec P Instr.ld_mBC_A := fun s h => ⟨_, exec_ld_mBC_A s, K.opStA _ h⟩
theorem ex_rlca : KeepsExec P Instr.rlca := fun s h => ⟨_, exec_rlca s, K.opOnA _ h⟩
theorem ex_ld_mnn_SP (nn : Word) : KeepsExec P (Instr.ld_mnn_SP nn) := fun s h => ⟨_, exec_ld_mnn_SP nn s, K.memWrite _ _ (K.memWrite _ _ h)⟩
theorem ex_ld_A_mBC : KeepsExec P Instr.ld_A_mBC := fun s h => ⟨_, exec_ld_A_mBC s, K.opLdA _ h⟩
theorem ex_rrca : KeepsExec P Instr.rrca := fun s h => ⟨_, exec_rrca s, K.opOnA _ h⟩
theorem ex_stop (pad : Byte) : KeepsExec P (Instr.stop pad) := fun s h => ⟨_, exec_stop pad s, K.opStop h⟩
theorem ex_ld_mDE_A : KeepsExec P Instr.ld_mDE_A := fun s h => ⟨_, exec_ld_mDE_A s, K.opStA _ h⟩
theorem ex_rla : KeepsExec P Instr.rla := fun s h => ⟨_, exec_rla s, K.opOnA _ h⟩
theorem ex_jr_e (e : Byte) : KeepsExec P (Instr.jr_e e) := fun s h => ⟨_, exec_jr_e e s, K.opJump _ h⟩
theorem ex_ld_A_mDE : KeepsExec P Instr.ld_A_mDE := fun s h => ⟨_, exec_ld_A_mDE s, K.opLdA _ h⟩
theorem ex_rra : KeepsExec P Instr.rra := fun s h => ⟨_, exec_rra s, K.opOnA _ h⟩
theorem ex_ld_mHLinc_A : KeepsExec P Instr.ld_mHLinc_A := fun s h => ⟨_, exec_ld_mHLinc_A s, K.setHl _ (K.opStA _ h)⟩
theorem ex_daa : KeepsExec P Instr.daa := fun s h => ⟨_, exec_daa s, K.opOnA _ h⟩
theorem ex_ld_A_mHLinc : KeepsExec P Instr.ld_A_mHLinc := fun s h => ⟨_, exec_ld_A_mHLinc s, K.setHl _ (K.opLdA _ h)⟩
theorem ex_cpl : KeepsExec P Instr.cpl := fun s h => ⟨_, exec_cpl s, K.opOnA _ h⟩
theorem ex_ld_mHLdec_A : KeepsExec P Instr.ld_mHLdec_A := fun s h => ⟨_, exec_ld_mHLdec_A s, K.setHl _ (K.opStA _ h)⟩
theorem ex_inc_mHL : KeepsExec P Instr.inc_mHL := fun s h => ⟨_, exec_inc_mHL s, K.opRmw _ h⟩
theorem ex_dec_mHL : KeepsExec P Instr.dec_mHL := fun s h => ⟨_, exec_dec_mHL s, K.opRmw _ h⟩
theorem ex_ld_mHL_n (n : Byte) : KeepsExec P (Instr.ld_mHL_n n) := fun s h => ⟨_, exec_ld_mHL_n n s, K.writeHL _ h⟩
theorem ex_scf : KeepsExec P Instr.scf := fun s h => ⟨_, exec_scf s, K.setF _ h⟩
theorem ex_ld_A_mHLdec : KeepsExec P Instr.ld_A_mHLdec := fun s h => ⟨_, exec_ld_A_mHLdec s, K.setHl _ (K.opLdA _ h)⟩
theorem ex_ccf : KeepsExec P Instr.ccf := fun s h => ⟨_, exec_ccf s, K.setF _ h⟩
theorem ex_halt : KeepsExec P Instr.halt := fun s h => ⟨_, exec_halt s, K.setHalt _ h⟩
theorem ex_jp_nn (nn : Word) : KeepsExec P (Instr.jp_nn nn) := fun s h => ⟨_, exec_jp_nn nn s, K.opJump _ h⟩
theorem ex_ret : KeepsExec P Instr.ret := fun s h => ⟨_, exec_ret s, K.opRet h⟩
theorem ex_call_nn (nn : Word) : KeepsExec P (Instr.call_nn nn) := fun s h => ⟨_, exec_call_nn nn s, K.opCall _ h⟩
theorem ex_reti : KeepsExec P Instr.reti := fun s h => ⟨_, exec_reti s, K.setIme _ (K.idleM (K.setPc _ (K.pop16 h)))⟩
theorem ex_ldh_mn_A (n : Byte) : KeepsExec P (Instr.ldh_mn_A n) := fun s h => ⟨_, exec_ldh_mn_A n s, K.opStA _ h⟩
theorem ex_ldh_mC_A : KeepsExec P Instr.ldh_mC_A := fun s h => ⟨_, exec_ldh_mC_A s, K.opStA _ h⟩
theorem ex_add_SP_e (e : Byte) : KeepsExec P (Instr.add_SP_e e) := fun s h => ⟨_, exec_add_SP_e e s, K.idleM (K.idleM (K.setF _ (K.setSp _ h)))⟩
theorem ex_jp_HL : KeepsExec P Instr.jp_HL := fun s h => ⟨_, exec_jp_HL s, K.setPc _ h⟩
theorem ex_ld_mnn_A (nn : Word) : KeepsExec P (Instr.ld_mnn_A nn) := fun s h => ⟨_, exec_ld_mnn_A nn s, K.opStA _ h⟩
theorem ex_ldh_A_mn (n : Byte) : KeepsExec P (Instr.ldh_A_mn n) := fun s h => ⟨_, exec_ldh_A_mn n s, K.opLdA _ h⟩
theorem ex_ldh_A_mC : KeepsExec P Instr.ldh_A_mC := fun s h => ⟨_, exec_ldh_A_mC s, K.opLdA _ h⟩
theorem ex_di : KeepsExec P Instr.di := fun s h => ⟨_, exec_di s, K.setImePending _ (K.setIme _ h)⟩
theorem ex_ld_HL_SPe (e : Byte) : KeepsExec P (Instr.ld_HL_SPe e) := fun s h => ⟨_, exec_ld_HL_SPe e s, K.idleM (K.setF _ (K.setHl _ h))⟩
theorem ex_ld_SP_HL : KeepsExec P Instr.ld_SP_HL := fun s h => ⟨_, exec_ld_SP_HL s, K.idleM (K.setSp _ h)⟩
theorem ex_ld_A_mnn (nn : Word) : KeepsExec P (Instr.ld_A_mnn nn) := fun s h => ⟨_, exec_ld_A_mnn nn s, K.opLdA _ h⟩
theorem ex_ei : KeepsExec P Instr.ei := fun s h => ⟨_, exec_ei s, K.setImePending _ h⟩
theorem ex_illegal (i : Instr) (hi : i.isIllegal = true) : KeepsExec P i :=
  fun s h => ⟨_, exec_illegal i hi s, K.cpu _ _ h⟩

/-- Every instruction that a fetch can give answers a next state, and the property holds there. -/
theorem exec (i : Instr) : i.wellFormed = true → KeepsExec P i :=
  Instr.byFamily (P := fun i => i.wellFormed = true → KeepsExec P i)
    (fun d r _ => ex_ldRR K d r)
    (fun r n _ => ex_ldRN K r n)
    (fun r _ => ex_ldRM K r)
    (fun r _ => ex_ldMR K r)
    (fun rr nn _ => ex_ldRRnn K rr nn)
    (fun rr _ => ex_pushRR K rr)
    (fun rr _ => ex_popRR K rr)
    (fun op r _ => ex_aluR K op r)
    (fun op _ => ex_aluM K op)
    (fun op n _ => ex_aluN K op n)
    (fun r _ => ex_incR K r)
    (fun r _ => ex_decR K r)
    (fun rr _ => ex_addHLRR K rr)
    (fun rr _ => ex_incRR K rr)
    (fun rr _ => ex_decRR K rr)
    (fun op r _ => ex_rotR K op r)
    (fun op _ => ex_rotM K op)
    (fun b r _ => ex_bitR K b r)
    (fun b _ => ex_bitM K b)
    (fun b r _ => ex_resR K b r)
    (fun b _ => ex_resM K b)
    (fun b r _ => ex_setR K b r)
    (fun b _ => ex_setM K b)
    (fun cc nn _ => ex_jpCC K cc nn)
    (fun cc e _ => ex_jrCC K cc e)
    (fun cc nn _ => ex_callCC K cc nn)
    (fun cc _ => ex_retCC K cc)
    (fun y _ => ex_rst K y)
    (fun _ => ex_nop)
    (fun _ => ex_ld_mBC_A K)
    (fun _ => ex_rlca K)
    (fun nn _ => ex_ld_mnn_SP K nn)
    (fun _ => ex_ld_A_mBC K)
    (fun _ => ex_rrca K)
    (fun pad _ => ex_stop K pad)
    (fun _ => ex_ld_mDE_A K)
    (fun _ => ex_rla K)
    (fun e _ => ex_jr_e K e)
    (fun _ => ex_ld_A_mDE K)
    (fun _ => ex_rra K)
    (fun _ => ex_ld_mHLinc_A K)
    (fun _ => ex_daa K)
    (fun _ => ex_ld_A_mHLinc K)
    (fun _ => ex_cpl K)
    (fun _ => ex_ld_mHLdec_A K)
    (fun _ => ex_inc_mHL K)
    (fun _ => ex_dec_mHL K)
    (fun n _ => ex_ld_mHL_n K n)
    (fun _ => ex_scf K)
    (fun _ => ex_ld_A_mHLdec K)
    (fun _ => ex_ccf K)
    (fun _ => ex_halt K)
    (fun nn _ => ex_jp_nn K nn)
    (fun _ => ex_ret K)
    (fun w => absurd w (by decide))
    (fun nn _ => ex_call_nn K nn)
    (fun _ => ex_reti K)
    (fun n _ => ex_ldh_mn_A K n)
    (fun _ => ex_ldh_mC_A K)
    (fun e _ => ex_add_SP_e K e)
    (fun _ => ex_jp_HL K)
    (fun nn _ => ex_ld_mnn_A K nn)
    (fun n _ => ex_ldh_A_mn K n)
    (fun _ => ex_ldh_A_mC K)
    (fun _ => ex_di K)
    (fun e _ => ex_ld_HL_SPe K e)
    (fun _ => ex_ld_SP_HL K)
    (fun nn _ => ex_ld_A_mnn K nn)
    (fun _ => ex_ei K)
    (fun i hi _ => ex_illegal K i hi) i

theorem fetchInstr {s : State} (h : P s) : P (fetchInstr s).2 := by
  have h0 := K.fetch8 h
  have h1 := K.fetch8 h0
  have h2 := K.fetch8 h1
  unfold Machine.fetchInstr
  dsimp only
  split
  · show P (Machine.fetch8 s).2; exact h0
  · show P (Machine.fetch8 (Machine.fetch8 s).2).2; exact h1
  · show P (Machine.fetch8 (Machine.fetch8 (Machine.fetch8 s).2).2).2; exact h2

theorem chooseVector {s : State} (h : P s) : P (chooseVector s) := by
  unfold Machine.chooseVector
  split
  · exact K.setPc _ h
  · exact K.ack (s.setPc (interruptVector (lowestBit s.irq.pending))) _ (K.setPc _ h)

theorem dispatch {s : State} (h : P s) : P (dispatch s) :=
  K.chooseVector (K.push16 _ (K.setImePending _ (K.setIme _ (K.idleM (K.idleM h)))))

theorem hdmaStepM {s : State} (hc : hdmaHolds s = true) (h : P s) : P (hdmaStepM s) := by
  have hcgb : s.cgb = true := by unfold hdmaHolds at hc; rw [Bool.and_eq_true] at hc; exact hc.1
  unfold Machine.hdmaStepM
  split
  · exact K.time _ (K.hdma _ hcgb h)
  · exact K.time _ (K.hdma _ (show (hdmaCopyByte s).cgb = true from hcgb) (K.hdma _ hcgb h))

theorem delayedEnable {s : State} (p : Bool) (h : P s) : P (delayedEnable p s) := by
  unfold Machine.delayedEnable; split
  · exact K.setImePending _ (K.setIme _ h)
  · exact h

theorem wakeHalt {s : State} (h : P s) : P (wakeHalt s) := K.setHalt _ h
theorem wakeStop {s : State} (h : P s) : P (wakeStop s) := K.setStop _ h

theorem runInstr {s : State} (h : P s) : ∃ t, runInstr s = .next t ∧ P t := by
  obtain ⟨t, he, ht⟩ := K.exec _ (fetchInstr_wellFormed s) _ (K.fetchInstr h)
  refine ⟨Machine.delayedEnable s.cpu.imePending t, ?_, K.delayedEnable _ ht⟩
  unfold Machine.runInstr
  rw [he]

theorem awakeStep {s : State} (h : P s) : ∃ t, awakeStep s = .next t ∧ P t := by
  unfold Machine.awakeStep
  split
  · exact ⟨_, rfl, K.dispatch h⟩
  · split
    · exact ⟨_, rfl, K.idleM h⟩
    · exact K.runInstr h

/-- Every step answers a next state, and what the primitives keep holds there. -/
theorem step {s : State} (h : P s) : ∃ t, step s = .next t ∧ P t := by
  unfold Machine.step Machine.cpuStep
  split
  · exact ⟨_, rfl, h⟩
  · split
    · exact ⟨_, rfl, K.hdmaStepM ‹_› h⟩
    · exact K.awakeStep (K.wakeStop (K.wakeHalt h))

/-- The same, for the state that a step answers. -/
theorem step_next {s t : State} (h : P s) (ht : Machine.step s = .next t) : P t := by
  obtain ⟨u, hu, pu⟩ := K.step h
  rw [hu] at ht; cases ht; exact pu

end Keeps

/-! ### What a step does -/

theorem keeps_true : Keeps (fun _ => True) :=
  ⟨fun _ _ _ => trivial, fun _ _ _ _ => trivial, fun _ _ => trivial, fun _ _ _ => trivial, fun _ _ _ => trivial,
   fun _ _ => trivial, fun _ _ _ => trivial⟩

/-- Everything a step can do (60_exceptions.md R400): a frozen CPU changes nothing; HDMA holds the CPU; an interrupt is
dispatched; the CPU idles; or one instruction runs. -/
theorem step_cases {s t : State} (h : step s = .next t) :
    (s.cpu.illegal = true ∧ t = s) ∨
    (s.cpu.illegal = false ∧ hdmaHolds s = true ∧ t = hdmaStepM s) ∨
    (s.cpu.illegal = false ∧ hdmaHolds s = false ∧
      ((dispatches (wakeStop (wakeHalt s)) = true ∧ t = dispatch (wakeStop (wakeHalt s))) ∨
       (dispatches (wakeStop (wakeHalt s)) = false ∧
          ((wakeStop (wakeHalt s)).cpu.halt || (wakeStop (wakeHalt s)).cpu.stop) = true ∧
          t = idleM (wakeStop (wakeHalt s))) ∨
       (dispatches (wakeStop (wakeHalt s)) = false ∧
          ((wakeStop (wakeHalt s)).cpu.halt || (wakeStop (wakeHalt s)).cpu.stop) = false ∧
          ∃ u, exec (fetchInstr (wakeStop (wakeHalt s))).1 (fetchInstr (wakeStop (wakeHalt s))).2 = .next u ∧
            t = delayedEnable s.cpu.imePending u))) := by
  unfold step cpuStep at h
  split at h
  · exact .inl ⟨‹_›, by cases h; rfl⟩
  · rename_i hi
    rw [Bool.not_eq_true] at hi
    split at h
    · exact .inr (.inl ⟨hi, ‹_›, by cases h; rfl⟩)
    · rename_i hh
      rw [Bool.not_eq_true] at hh
      refine .inr (.inr ⟨hi, hh, ?_⟩)
      unfold awakeStep at h
      split at h
      · exact .inl ⟨‹_›, by cases h; rfl⟩
      · rename_i hd
        rw [Bool.not_eq_true] at hd
        split at h
        · exact .inr (.inl ⟨hd, ‹_›, by cases h; rfl⟩)
        · rename_i hx
          rw [Bool.not_eq_true] at hx
          refine .inr (.inr ⟨hd, hx, ?_⟩)
          unfold runInstr at h
          split at h
          · rename_i u hu
            exact ⟨u, hu, by cases h; rfl⟩
          · cases h
          · cases h

end Sys2Proof.Machine
end

