-- ==== Sys2Proof/Tests/Slice0.lean ====
section
/-! SUPPORT. Tests: instruction words written out from the encoding tables of 30_encoding.md, the WellFormed smoke test,
single steps whose expected values are the worked examples and vectors of spec/95_test_vectors.md, and for every
obligation with hypotheses a named witness that meets them. -/
namespace Sys2Proof.Tests

open Sys2Proof Sys2Proof.Machine Sys2Proof.Config

/-! ## WellFormed: the one ill-formed term, and neighbours that are whole -/

theorem test_wf_refuses_lone_prefix : Instr.prefixCB.wellFormed = false := rfl
theorem test_wf_accepts_prefixed : Instr.swap_A.wellFormed = true := rfl
theorem test_wf_accepts_immediate : (Instr.jr_e 0x80#8).wellFormed = true := rfl
-- the byte 0xCB with nothing behind it is the opcode table's row PREFIX CB, no whole instruction (R178)
theorem test_decode_lone_prefix : decode [0xCB#8] = .ok (.prefixCB, []) := rfl
theorem test_decode_refuses_nothing : decode [] = .error .noOpcode := rfl
theorem test_decode_refuses_short_immediate : decode [0x3E#8] = .error (.missingOperand 0x3E#8) := rfl
theorem test_decode_refuses_short_word : decode [0xC3#8, 0x50#8] = .error (.missingOperand 0xC3#8) := rfl

/-! ## Decoding, a word or more for each family, from R172 to R177 -/

-- `01 yyy zzz`: y = 2 (D), z = 5 (L)
theorem test_decode_ld_r_r : decode [0b01010101#8] = .ok (.ld_D_L, []) := rfl
-- `00 yyy 110 n`: y = 7 (A)
theorem test_decode_ld_r_n : decode [0b00111110#8, 0x7F#8, 0x00#8] = .ok (.ld_A_n 0x7F#8, [0x00#8]) := rfl
-- `01 110 zzz`: z = 3 (E)
theorem test_decode_ld_mHL_r : decode [0b01110011#8] = .ok (.ld_mHL_E, []) := rfl
theorem test_decode_ld_A_mHLdec : decode [0x3A#8] = .ok (.ld_A_mHLdec, []) := rfl
theorem test_decode_ldh : decode [0xE0#8, 0x80#8] = .ok (.ldh_mn_A 0x80#8, []) := rfl
-- low byte first: 0x1234 is 34 12
theorem test_decode_ld_mnn_A : decode [0xEA#8, 0x34#8, 0x12#8] = .ok (.ld_mnn_A 0x1234#16, []) := rfl
-- `00 pp0 001`: p = 3 (SP)
theorem test_decode_ld_rr_nn : decode [0b00110001#8, 0x00#8, 0xD0#8] = .ok (.ld_SP_nn 0xD000#16, []) := rfl
-- `11 pp0 101`: p = 3 (AF)
theorem test_decode_push_AF : decode [0b11110101#8] = .ok (.push_AF, []) := rfl
-- `10 yyy zzz`: y = 1 (ADC), z = 6 ((HL))
theorem test_decode_adc_mHL : decode [0b10001110#8] = .ok (.adc_A_mHL, []) := rfl
-- `11 yyy 110 n`: y = 7 (CP)
theorem test_decode_cp_n : decode [0b11111110#8, 0x90#8] = .ok (.cp_A_n 0x90#8, []) := rfl
theorem test_decode_daa : decode [0x27#8] = .ok (.daa, []) := rfl
-- `00 pp1 001`: p = 1 (DE)
theorem test_decode_add_HL_DE : decode [0b00011001#8] = .ok (.add_HL_DE, []) := rfl
-- CB `00 yyy zzz`: y = 5 (SRA), z = 1 (C)
theorem test_decode_sra_C : decode [0xCB#8, 0b00101001#8] = .ok (.sra_C, []) := rfl
-- CB `01 bbb zzz`, `10 bbb zzz`, `11 bbb zzz`: b = 3, z = 4 (H)
theorem test_decode_bit_3_H : decode [0xCB#8, 0b01011100#8] = .ok (.bit_3_H, []) := rfl
theorem test_decode_res_3_H : decode [0xCB#8, 0b10011100#8] = .ok (.res_3_H, []) := rfl
theorem test_decode_set_3_H : decode [0xCB#8, 0b11011100#8] = .ok (.set_3_H, []) := rfl
-- `001 cc 000 e`: cc = 3 (C)
theorem test_decode_jr_C : decode [0b00111000#8, 0xFE#8] = .ok (.jr_C_e 0xFE#8, []) := rfl
-- `110 cc 010 nn`, `110 cc 100 nn`, `110 cc 000`: cc = 2 (NC)
theorem test_decode_jp_NC : decode [0b11010010#8, 0x50#8, 0x01#8] = .ok (.jp_NC_nn 0x0150#16, []) := rfl
theorem test_decode_call_NC : decode [0b11010100#8, 0x50#8, 0x01#8] = .ok (.call_NC_nn 0x0150#16, []) := rfl
theorem test_decode_ret_NC : decode [0b11010000#8] = .ok (.ret_NC, []) := rfl
-- `11 yyy 111`: y = 7
theorem test_decode_rst_38 : decode [0b11111111#8] = .ok (.rst_38, []) := rfl
theorem test_decode_undefined : decode [0xD3#8, 0x00#8] = .ok (.illegal_D3, [0x00#8]) := rfl
theorem test_decode_ei_di_reti : decode [0xFB#8] = .ok (.ei, []) ∧ decode [0xF3#8] = .ok (.di, []) ∧
    decode [0xD9#8] = .ok (.reti, []) := ⟨rfl, rfl, rfl⟩
-- the numbering of the opcode table: later bytes above earlier ones
theorem test_table_word_numbering : decodeTableWord 16 0x7F3E = some (.ld_A_n 0x7F#8) ∧
    decodeTableWord 8 0x27 = some .daa ∧ decodeTableWord 16 0x7ECB = some .bit_7_mHL := by decide
theorem test_encode_bytes : encode (.call_nn 0x1234#16) = [0xCD#8, 0x34#8, 0x12#8] ∧ encode .res_0_mHL = [0xCB#8, 0x86#8] :=
  ⟨rfl, rfl⟩

/-! ## Single steps -/

/-- The conditions of vector group V9: monochrome reset state, LCD off, `F = 0`, the bytes in work RAM from 0xC000. -/
def start (bytes : List Byte) (c : Cpu → Cpu) : State :=
  let s := State.reset
  setCells { s with ppu := s.ppu.writeLcdc s.oam 0#8
                    cpu := c { s.cpu with f := ⟨false, false, false, false⟩, pc := 0xC000#16 } } 0xC000#16 bytes

/-- What a projection gives after one step. -/
def after {α : Type} (s : State) (p : State → α) : Option α :=
  match step s with
  | .next t => some (p t)
  | _ => none

/-- Memory as the CPU sees it after a step. -/
def byteAt (a : Word) (t : State) : Byte := rawRead t a

-- V10
theorem test_ld_E_mHL : after (setCell (start [0x5E#8] fun c => { c with h := 0xC1#8, l := 0#8 }) 0xC100#16 0x99#8)
    (fun t => (t.cpu.e, t.cpu.pc)) = some (0x99#8, 0xC001#16) := by decide
theorem test_ld_mHLinc_A : after (start [0x22#8] fun c => { c with a := 0x01#8, h := 0xC1#8, l := 0xFF#8 })
    (fun t => (byteAt 0xC1FF#16 t, t.cpu.hl)) = some (0x01#8, 0xC200#16) := by decide
theorem test_ldh_mn_A : after (start [0xE0#8, 0x80#8] fun c => { c with a := 0x5C#8 }) (byteAt 0xFF80#16) =
    some 0x5C#8 := by decide
theorem test_ld_A_unusable : after (start [0xFA#8, 0xA0#8, 0xFE#8] id) (·.cpu.a) = some 0xFF#8 := by decide
-- V11
theorem test_ld_HL_SPe : after (start [0xF8#8, 0xFF#8] fun c => { c with sp := 1#16 })
    (fun t => (t.cpu.hl, t.cpu.f, t.cpu.sp)) = some (0#16, ⟨false, false, true, true⟩, 1#16) := by decide
theorem test_push_wraps_through_IE : after (start [0xC5#8] fun c => { c with b := 0xAB#8, c := 0xCD#8, sp := 1#16 })
    (fun t => (t.cpu.sp, t.irq.ie)) = some (0xFFFF#16, 0xCD#8) := by decide
theorem test_pop_AF_drops_low_bits :
    after (setCells (start [0xF1#8] fun c => { c with sp := 0xFFFC#16 }) 0xFFFC#16 [0x5F#8, 0x12#8])
    (fun t => (t.cpu.a, t.cpu.f, t.cpu.sp)) = some (0x12#8, ⟨false, true, false, true⟩, 0xFFFE#16) := by decide
-- V2, V12
theorem test_add_half_carry : after (start [0xC6#8, 0x01#8] fun c => { c with a := 0x0F#8 })
    (fun t => (t.cpu.a, t.cpu.f)) = some (0x10#8, ⟨false, false, true, false⟩) := by decide
theorem test_sub_borrow : after (start [0xD6#8, 0x01#8] fun c => { c with a := 0x00#8 })
    (fun t => (t.cpu.a, t.cpu.f)) = some (0xFF#8, ⟨false, true, true, true⟩) := by decide
theorem test_adc_full : after (start [0xCE#8, 0xFF#8] fun c => { c with a := 0xFF#8, f := ⟨false, false, false, true⟩ })
    (fun t => (t.cpu.a, t.cpu.f)) = some (0xFF#8, ⟨false, false, true, true⟩) := by decide
theorem test_sbc_self : after (start [0x9F#8] fun c => { c with a := 0x42#8, f := ⟨false, false, false, true⟩ })
    (fun t => (t.cpu.a, t.cpu.f)) = some (0xFF#8, ⟨false, true, true, true⟩) := by decide
theorem test_cp_keeps_A : after (start [0xFE#8, 0x90#8] fun c => { c with a := 0x8F#8 })
    (fun t => (t.cpu.a, t.cpu.f)) = some (0x8F#8, ⟨false, true, false, true⟩) := by decide
theorem test_inc_keeps_carry : after (start [0x04#8] fun c => { c with b := 0x0F#8, f := ⟨false, false, false, true⟩ })
    (fun t => (t.cpu.b, t.cpu.f)) = some (0x10#8, ⟨false, false, true, true⟩) := by decide
theorem test_dec_mHL : after (setCell (start [0x35#8] fun c => { c with h := 0xC1#8, l := 0#8 }) 0xC100#16 0x01#8)
    (fun t => (byteAt 0xC100#16 t, t.cpu.f)) = some (0#8, ⟨true, true, false, false⟩) := by decide
theorem test_daa_after_sub : after (start [0x27#8] fun c => { c with a := 0#8, f := ⟨false, true, true, true⟩ })
    (fun t => (t.cpu.a, t.cpu.f)) = some (0x9A#8, ⟨false, true, false, true⟩) := by decide
-- V13
theorem test_add_HL_bit_11 : after (start [0x09#8] fun r => { r with f := ⟨true, false, false, false⟩, h := 0x0F#8, l := 0xFF#8, c := 1#8 })
    (fun t => (t.cpu.hl, t.cpu.f)) = some (0x1000#16, ⟨true, false, true, false⟩) := by decide
-- the examples of R293, R301 and R303
theorem test_rla_through_carry : after (start [0x17#8] fun c => { c with a := 0x80#8 })
    (fun t => (t.cpu.a, t.cpu.f)) = some (0x00#8, ⟨false, false, false, true⟩) := by decide
theorem test_sra_keeps_sign : after (start [0xCB#8, 0x28#8] fun c => { c with b := 0x81#8 })
    (fun t => (t.cpu.b, t.cpu.f)) = some (0xC0#8, ⟨false, false, false, true⟩) := by decide
theorem test_bit_7_H : after (start [0xCB#8, 0x7C#8] fun c => { c with h := 0x80#8 }) (·.cpu.f) =
    some ⟨false, false, true, false⟩ := by decide
-- control transfer: backward jump over its own length, a call's return address, a conditional not taken
theorem test_jr_self : after (start [0x18#8, 0xFE#8] id) (·.cpu.pc) = some 0xC000#16 := by decide
theorem test_call_pushes_next : after (start [0xCD#8, 0x34#8, 0x12#8] id)
    (fun t => (t.cpu.pc, t.cpu.sp, byteAt 0xFFFD#16 t, byteAt 0xFFFC#16 t)) =
    some (0x1234#16, 0xFFFC#16, 0xC0#8, 0x03#8) := by decide
theorem test_call_not_taken : after (start [0xCC#8, 0x34#8, 0x12#8] id) (fun t => (t.cpu.pc, t.cpu.sp)) =
    some (0xC003#16, 0xFFFE#16) := by decide
-- the example of R330
theorem test_reti : after (setCells (start [0xD9#8] fun c => { c with sp := 0xFFFC#16 }) 0xFFFC#16 [0x34#8, 0x12#8])
    (fun t => (t.cpu.pc, t.cpu.sp, t.cpu.ime)) = some (0x1234#16, 0xFFFE#16, true) := by decide
-- the example of R346
theorem test_undefined_opcode : after (start [0xDD#8] id) (fun t => (t.cpu.illegal, t.cpu.pc)) =
    some (true, 0xC001#16) := by decide
-- R346: no other state changes, also right after EI
theorem test_undefined_opcode_after_ei : after (start [0xDD#8] fun c => { c with imePending := true })
    (fun t => (t.cpu.illegal, t.cpu.ime, t.cpu.imePending)) = some (true, false, true) := by decide
theorem test_stop_stops : after (start [0x10#8, 0x00#8] id) (fun t => (t.cpu.stop, t.cpu.pc)) =
    some (true, 0xC002#16) := by decide
theorem test_ei_is_delayed : after (start [0xFB#8] id) (fun t => (t.cpu.ime, t.cpu.imePending)) =
    some (false, true) := by decide

/-- A machine about to take interrupts 0 and 2. -/
def interrupted (sp : Word) : State :=
  let s := start [] fun c => { c with ime := true, sp := sp }
  { s with irq := { s.irq with ie := 0x05#8, pend := 0x05#5 } }

-- R410, R411: the lowest source wins and its bit alone is cleared
set_option maxRecDepth 4000 in
theorem test_dispatch : after (interrupted 0xFFFE#16) (fun t => (t.cpu.pc, t.cpu.sp, t.irq.pend, t.cpu.ime)) =
    some (0x0040#16, 0xFFFC#16, 0x04#5, false) := by decide
-- V3
theorem test_div_write_edge : (busWrite { State.reset with timer := ⟨0x0200#16, 0x10#8, 0#8, 4#3, 0⟩ } 0xFF04#16 0#8).timer =
    ⟨0#16, 0x11#8, 0#8, 4#3, 0⟩ := by decide
-- V5
theorem test_trigger : busRead (busWrite (busWrite State.reset 0xFF12#16 0xF0#8) 0xFF14#16 0x87#8) 0xFF26#16 = 0xF1#8 := by
  decide
theorem test_withFetchWord : after (State.reset.withFetchWord 16 0x7F3E) (fun t => (t.cpu.a, t.cpu.pc)) =
    some (0x7F#8, 0x0102#16) := by decide

/-! ## Witnesses: states and operands that meet the hypotheses of the obligations -/

/-- The reset state with other CPU registers. -/
def withCpu (c : Cpu → Cpu) : State := { State.reset with cpu := c State.reset.cpu }

theorem reset_canonical : State.reset.Canonical := by
  constructor <;> first | decide | (constructor <;> decide)

theorem withCpu_canonical (c : Cpu → Cpu) : (withCpu c).Canonical := { reset_canonical with }

theorem reset_ppu_ok : State.reset.ppu.Ok := by constructor <;> decide

theorem reset_apu_ok : State.reset.apu.Ok := by constructor <;> decide

theorem reset_runs_instr : State.reset.RunsInstr := by constructor <;> decide

theorem witness_DecodeOfEncodeIsIdentity : ∃ (i : Instr) (rest : List Byte), i.wellFormed = true ∧ rest ≠ [] :=
  ⟨.jp_nn 0xFFFF#16, [0x00#8], rfl, by decide⟩

theorem witness_EncodeOfDecodeIsIdentity : ∃ (bytes rest : List Byte) (i : Instr), decode bytes = .ok (i, rest) :=
  ⟨[0xCB#8, 0x37#8, 0x01#8], [0x01#8], .swap_A, rfl⟩

theorem witness_UndefinedOpcodesFreeze : Instr.illegal_FD.isIllegal = true ∧
    (withCpu fun c => { c with illegal := true }).cpu.illegal = true := ⟨rfl, rfl⟩

theorem witness_UndefinedOpcodesFreeze_step : let s := start [0xFD#8] fun c => { c with imePending := true }
    s.RunsInstr ∧ s.nextInstr.isIllegal = true := ⟨by constructor <;> decide, by decide⟩

theorem witness_StepRunsDecodedInstruction : ∃ (s : State) (i : Instr) (rest : List Byte), s.RunsInstr ∧
    decode [s.fetchByte 0, s.fetchByte 1, s.fetchByte 2] = .ok (i, rest) ∧ i = .add_A_n 0x01#8 :=
  ⟨start [0xC6#8, 0x01#8, 0x00#8] id, .add_A_n 0x01#8, [0x00#8],
    by constructor <;> decide +kernel, by decide +kernel, rfl⟩

theorem witness_InterruptDispatch : let s := interrupted 0xFFFE#16
    s.cpu.illegal = false ∧ hdmaHolds s = false ∧ s.cpu.stop = false ∧ s.cpu.ime = true ∧ s.irq.pending ≠ 0#5 := by decide

/-- The machine of R410 after the pushes, with source `i` the only one enabled and requested. -/
def pushedWith (sp : Word) (i : Nat) : State :=
  let s := { interrupted sp with irq := ⟨1#8 <<< i, 1#5 <<< i, false⟩ }
  memWrite (memWrite (passM 2 s) (s.cpu.sp - 1#16) (hiByte s.cpu.pc)) (s.cpu.sp - 2#16) (loByte s.cpu.pc)

-- the push of the high byte, respectively of the low byte, overwrites IE
theorem witness_InterruptDispatch_cancelled : (pushedWith 0x0000#16 0).irq.pending = 0#5 ∧
    (pushedWith 0x0001#16 0).irq.pending = 0#5 := by decide +kernel

theorem witness_InterruptDispatch_first : (pushedWith 0xFFFE#16 0).irq.pending.getLsbD 0 = true := by decide +kernel

theorem witness_InterruptDispatch_last : (pushedWith 0xFFFE#16 4).irq.pending.getLsbD 4 = true ∧
    ∀ j, j < 4 → (pushedWith 0xFFFE#16 4).irq.pending.getLsbD j = false := by decide +kernel

/-- As `interrupted`, with the LCD on. -/
def interruptedOn (sp : Word) : State :=
  { State.reset with cpu := { State.reset.cpu with ime := true, sp := sp }, irq := ⟨0x01#8, 0x01#5, false⟩ }

theorem witness_DispatchThenRetiReturns : ∀ sp ∈ [0xFF82#16, 0xFFFF#16], ∃ s t : State, s.Canonical ∧
    s.cpu.illegal = false ∧ hdmaHolds s = false ∧ s.cpu.stop = false ∧ s.cpu.ime = true ∧ s.irq.pending ≠ 0#5 ∧
    0xFF82 ≤ s.cpu.sp.toNat ∧ s.cpu.sp.toNat ≤ 0xFFFF ∧ s.cpu.sp = sp ∧ step s = .next t := by
  intro sp h
  simp only [List.mem_cons, List.not_mem_nil, or_false] at h
  rcases h with rfl | rfl
  · exact ⟨interruptedOn 0xFF82#16, _, { reset_canonical with }, rfl, rfl, rfl, rfl, by decide, by decide, by decide, rfl, rfl⟩
  · exact ⟨interruptedOn 0xFFFF#16, _, { reset_canonical with }, rfl, rfl, rfl, rfl, by decide, by decide, by decide, rfl, rfl⟩

/-- A halted or stopped machine, with what is enabled and what the joypad lines are. -/
def waiting (halt stop : Bool) (ie : Byte) (lines : BitVec 4) : State :=
  { State.reset with cpu := { State.reset.cpu with halt := halt, stop := stop }
                     irq := { State.reset.irq with ie := ie }
                     joy := { State.reset.joy with lines := lines } }

theorem witness_HaltAndStopWake_halted : ∀ ie ∈ [0x00#8, 0x01#8], let s := waiting true false ie 0xF#4
    s.cpu.illegal = false ∧ hdmaHolds s = false ∧ s.cpu.halt = true ∧ s.cpu.stop = false ∧
    (s.irq.pending = 0#5 ↔ ie = 0x00#8) := by decide

theorem witness_HaltAndStopWake_stopped : ∀ l ∈ [0xF#4, 0xE#4], let s := waiting false true 0x00#8 l
    s.cpu.illegal = false ∧ hdmaHolds s = false ∧ s.cpu.stop = true ∧ s.cpu.halt = false ∧
    (s.joy.lines = 0xF#4 ↔ l = 0xF#4) := by decide

/-- A machine about to run one opcode, with the pending flag of EI as given. -/
def withPending (op : Byte) (p : Bool) : State := start [op] fun c => { c with imePending := p }

theorem witness_DelayedInterruptEnable : ∀ p : Bool, ∀ x ∈ [(0xF3#8, Instr.di), (0xFB#8, .ei), (0xD9#8, .reti), (0x00#8, .nop),
      (0xDD#8, .illegal_DD)],
    let s := withPending x.1 p
    s.cpu.illegal = false ∧ hdmaHolds s = false ∧ s.cpu.halt = false ∧ s.cpu.stop = false ∧ s.cpu.ime = false ∧
    s.cpu.imePending = p ∧ s.nextInstr = x.2 := by decide

theorem witness_DelayedInterruptEnable_next : ∃ t, step (withPending 0xFB#8 true) = .next t :=
  (keeps_true.step trivial).imp fun _ h => h.1

/-- An extended-mode machine in a general-purpose transfer. -/
def transferring (src : Word) (left : BitVec 7) : State :=
  { State.resetWith true Params.default Cart.blank Inputs.reset with
    hdma := ⟨src, 0x8010#16, .general, left, false, 0⟩ }

theorem witness_DelayedInterruptEnable_held : hdmaHolds (transferring 0x0000#16 0#7) = true ∧
    ∃ t, step (transferring 0x0000#16 0#7) = .next t := ⟨by decide, (keeps_true.step trivial).imp fun _ h => h.1⟩

theorem witness_Load16Forms : R16.BC ≠ R16.SP := by decide

theorem witness_AluStatements : ∃ (s u : State) (r : R8) (v : Byte), u = s ∧ v = s.cpu.get8 r :=
  ⟨State.reset, _, .A, _, rfl, rfl⟩

theorem witness_AluStatements_mHL : ∃ (s u : State) (v : Byte), u = advanceM s ∧ v = busRead s s.cpu.hl :=
  ⟨State.reset, _, _, rfl, rfl⟩

theorem witness_DecimalAdjustIsBcdArithmetic : (withCpu fun c => { c with a := 0x99#8 }).cpu.a =
    BitVec.ofNat 8 (99 / 10 % 10 * 16 + 99 % 10) ∧ (withCpu fun c => { c with a := 0#8 }).cpu.a =
    BitVec.ofNat 8 (0 / 10 % 10 * 16 + 0 % 10) := by decide

/-- What the obligation asks of a state, at one stack pointer. -/
theorem returnUndoesCall_ready (sp : Word) (h : (0xC002 ≤ sp.toNat ∧ sp.toNat ≤ 0xE000) ∨ 0xFF82 ≤ sp.toNat) :
    ∃ s : State, s.Canonical ∧ s.dma.active = false ∧ s.cpu.sp = sp ∧
      ((0xC002 ≤ s.cpu.sp.toNat ∧ s.cpu.sp.toNat ≤ 0xE000) ∨ 0xFF82 ≤ s.cpu.sp.toNat) ∧
      (∃ t, exec (.call_nn 0x0200#16) s = .next t) ∧
      (∃ t, s.cpu.f.cond .Z = true ∧ exec (.callCC .Z 0x0200#16) s = .next t) ∧ (∃ t, exec (.rst .o7) s = .next t) :=
  ⟨withCpu fun c => { c with sp := sp }, withCpu_canonical _, rfl, rfl, h, ⟨_, exec_call_nn _ _⟩,
    ⟨_, rfl, exec_callCC _ _ _⟩, ⟨_, exec_rst _ _⟩⟩

theorem witness_ReturnUndoesCall_first : ∃ s : State, s.Canonical ∧ s.dma.active = false ∧ s.cpu.sp = 0xC002#16 ∧
    ((0xC002 ≤ s.cpu.sp.toNat ∧ s.cpu.sp.toNat ≤ 0xE000) ∨ 0xFF82 ≤ s.cpu.sp.toNat) ∧
    (∃ t, exec (.call_nn 0x0200#16) s = .next t) ∧
    (∃ t, s.cpu.f.cond .Z = true ∧ exec (.callCC .Z 0x0200#16) s = .next t) ∧ (∃ t, exec (.rst .o7) s = .next t) :=
  returnUndoesCall_ready _ (.inl (by decide))

theorem witness_ReturnUndoesCall_last : ∃ s : State, s.Canonical ∧ s.dma.active = false ∧ s.cpu.sp = 0xE000#16 ∧
    ((0xC002 ≤ s.cpu.sp.toNat ∧ s.cpu.sp.toNat ≤ 0xE000) ∨ 0xFF82 ≤ s.cpu.sp.toNat) ∧
    (∃ t, exec (.call_nn 0x0200#16) s = .next t) ∧
    (∃ t, s.cpu.f.cond .Z = true ∧ exec (.callCC .Z 0x0200#16) s = .next t) ∧ (∃ t, exec (.rst .o7) s = .next t) :=
  returnUndoesCall_ready _ (.inl (by decide))

theorem witness_ReturnUndoesCall_hram : ∃ s : State, s.Canonical ∧ s.dma.active = false ∧ s.cpu.sp = 0xFF82#16 ∧
    ((0xC002 ≤ s.cpu.sp.toNat ∧ s.cpu.sp.toNat ≤ 0xE000) ∨ 0xFF82 ≤ s.cpu.sp.toNat) ∧
    (∃ t, exec (.call_nn 0x0200#16) s = .next t) ∧
    (∃ t, s.cpu.f.cond .Z = true ∧ exec (.callCC .Z 0x0200#16) s = .next t) ∧ (∃ t, exec (.rst .o7) s = .next t) :=
  returnUndoesCall_ready _ (.inr (by decide))

theorem witness_NonStoringInstructionsOnlyPassTime : Instr.ld_A_mHL.wellFormed = true ∧
    Instr.ld_A_mHL.stores State.reset = [] ∧ (∀ pad, Instr.ld_A_mHL ≠ .stop pad) ∧
    ∃ t, exec .ld_A_mHL State.reset = .next t := ⟨rfl, rfl, by simp, _, exec_ldRM .A _⟩

/-- A machine whose stores go to work RAM, OAM and the DMA register. -/
def storing (hl : Byte × Byte) : State := start [] fun c => { c with h := hl.1, l := hl.2, sp := 0xD000#16 }

theorem witness_MemoryFrame_stores : Instr.ld_mHL_A.wellFormed = true ∧
    (Instr.ld_mHL_A.stores (storing (0xC1#8, 0x00#8))).map (fun x => x.at_.storeTarget x.addr) = [some (.wram 0x100)] ∧
    (Instr.push_BC.stores (storing (0xC1#8, 0x00#8))).map (fun x => x.at_.storeTarget x.addr) =
      [some (.wram 0xFFF), some (.wram 0xFFE)] ∧
    (Instr.ld_mHL_A.stores (storing (0xFE#8, 0x9F#8))).map (fun x => x.at_.storeTarget x.addr) = [some (.oam 0x9F)] := by
  decide

theorem witness_MemoryFrame_no_dma : (storing (0xC1#8, 0x00#8)).dma.active = false ∧
    ∃ t, exec .push_BC (storing (0xC1#8, 0x00#8)) = .next t := ⟨rfl, _, exec_pushRR .BC _⟩

theorem witness_FlagTable : ∃ t, exec (decodeInstr 0xE8#8 0xFF#8 0#8) State.reset = .next t := ⟨_, exec_add_SP_e _ _⟩

theorem witness_ControlStateWriters : ∃ t, exec (decodeInstr 0x80#8 0#8 0#8) State.reset = .next t := ⟨_, exec_aluR .add .B _⟩

theorem witness_DurationOfEveryStep_frozen_held : (withCpu fun c => { c with illegal := true }).cpu.illegal = true ∧
    (transferring 0x0000#16 0#7).cpu.illegal = false ∧ hdmaHolds (transferring 0x0000#16 0#7) = true := by decide

-- what is left of halt and stop after the wake rules: a waiting halted CPU, a waiting stopped one, and both woken
theorem witness_DurationOfEveryStep_wakes : ∀ x ∈ [(waiting true false 0x00#8 0xF#4, true, false),
      (waiting false true 0x01#8 0xF#4, false, true), (waiting true false 0x01#8 0xF#4, false, false),
      (waiting false true 0x00#8 0xE#4, false, false)],
    x.1.cpu.illegal = false ∧ hdmaHolds x.1 = false ∧ x.1.cpu.ime = false ∧
    (x.1.cpu.halt && x.1.irq.pending == 0#5) = x.2.1 ∧ (x.1.cpu.stop && x.1.joy.lines == 0xF#4) = x.2.2 := by decide

theorem witness_step_of_reset : ∃ t, step State.reset = .next t := (keeps_true.step trivial).imp fun _ h => h.1

theorem witness_EchoAndReadBack : 0xE000 ≤ (0xE000#16).toNat ∧ (0xFDFF#16).toNat ≤ 0xFDFF ∧
    0xC000 ≤ (0xC000#16).toNat ∧ (0xDFFF#16).toNat ≤ 0xDFFF ∧ 0xFF80 ≤ (0xFF80#16).toNat := by decide

theorem witness_EchoAndReadBack_ram : State.reset.Canonical ∧ State.reset.dma.active = false :=
  ⟨reset_canonical, rfl⟩

/-- A machine with the LCD on in a given mode, OAM DMA running or not. -/
def inMode (m : PpuMode) (dma : Bool) : State :=
  { State.reset with ppu := { State.reset.ppu with mode := m }, dma := { State.reset.dma with active := dma } }

theorem witness_BlockedAccesses : ∀ m ∈ [PpuMode.transfer, .oamScan, .hblank], let s := inMode m false
    s.ppu.lcdc.getLsbD 7 = true ∧ s.ppu.mode = m ∧ s.dma.active = false ∧ (inMode m true).dma.active = true := by decide

theorem witness_OamDmaTransfer : State.reset.Canonical ∧ (160 ≤ 160) ∧ (159 < 160) ∧ State.reset.dma.active = false :=
  ⟨reset_canonical, by decide, by decide, rfl⟩

/-- A machine held at a block boundary of a transfer from 0xFDF0, at either speed, in either mode, with any blocks left. -/
def heldAtBlock (src : Word) (mode : HdmaMode) (double : Bool) (left : BitVec 7) : State :=
  { transferring src left with speed := ⟨double, false⟩, hdma := ⟨src, 0x9FF8#16, mode, left, true, 0⟩ }

theorem heldAtBlock_ready (src : Word) (mode : HdmaMode) (double : Bool) (left : BitVec 7) (h : mode ≠ .idle) :
    let s := heldAtBlock src mode double left
    s.Canonical ∧ s.cpu.illegal = false ∧ hdmaHolds s = true ∧ s.hdma.byte = 0 ∧ s.hdma.src = src ∧
      s.hdma.mode = mode ∧ s.speed.doubleSpeed = double ∧ s.hdma.left = left := by
  refine ⟨{ reset_canonical with }, rfl, ?_, rfl, rfl, rfl, rfl, rfl⟩
  cases mode <;> first | rfl | exact absurd rfl h

theorem witness_HdmaCopiesOneBlock_general : let s := heldAtBlock 0x0000#16 .general false 0#7
    s.Canonical ∧ s.cpu.illegal = false ∧ hdmaHolds s = true ∧ s.hdma.byte = 0 ∧ s.hdma.src = 0x0000#16 ∧
      s.hdma.mode = .general ∧ s.speed.doubleSpeed = false ∧ s.hdma.left = 0#7 :=
  heldAtBlock_ready _ _ _ _ (by decide)

theorem witness_HdmaCopiesOneBlock_hblank : let s := heldAtBlock 0xFDF0#16 .hblank true 1#7
    s.Canonical ∧ s.cpu.illegal = false ∧ hdmaHolds s = true ∧ s.hdma.byte = 0 ∧ s.hdma.src = 0xFDF0#16 ∧
      s.hdma.mode = .hblank ∧ s.speed.doubleSpeed = true ∧ s.hdma.left = 1#7 :=
  heldAtBlock_ready _ _ _ _ (by decide)

/-- An address that neither a transfer nor the passing of time changes, as the obligation says it. -/
def still (a : Nat) : Bool :=
  !decide (0x8000 ≤ a ∧ a < 0xA000) && !decide (0xFE00 ≤ a ∧ a < 0xFEA0) && !decide (0xFF00 ≤ a ∧ a < 0xFF80)

-- the blocks at the ends of the allowed ranges
theorem witness_HdmaCopiesOneBlock_sources : ∀ src ∈ [0x0000, 0x7FF0, 0xA000, 0xFDF0, 0xFEA0, 0xFEF0, 0xFF80, 0xFFF0],
    ∀ k : Nat, k < 16 → still (BitVec.ofNat 16 src + BitVec.ofNat 16 k).toNat = true := by decide +kernel

theorem witness_TimerCountsOncePerPeriod : ∀ sel : BitVec 2, let t : Timer := ⟨0xFFFF#16, 254#8, 0#8, 4#3 ||| sel.setWidth 3, 0⟩
    t.tac.getLsbD 2 = true ∧ t.reload = 0 ∧ t.tima.toNat < 255 := by decide

theorem witness_TimerCountsOncePerPeriod_disabled : Timer.reset.tac.getLsbD 2 = false ∧ Timer.reset.reload = 0 := by decide

theorem witness_TimerEdgesAndOverflow : State.reset.timer.reload ≤ 1 ∧ (⟨0#16, 0#8, 0#8, 0#3, 1⟩ : Timer).reload ≤ 1 := by
  decide

theorem witness_FramePosition : State.reset.ppu.Ok ∧ State.reset.ppu.lcdOn = true := ⟨reset_ppu_ok, rfl⟩

/-- The start of mode 3 of a visible scanline with `k` dots to skip. -/
def transferStart (ly k : Nat) : State :=
  { State.reset with ppu := { State.reset.ppu with mode := .transfer, lx := 80, ly := ly, m3Skip := k } }

theorem witness_ModeThreeLength : ∀ x ∈ [(0, 12), (143, 215)], let s := transferStart x.1 x.2
    s.ppu.lcdOn = true ∧ s.ppu.mode = .transfer ∧ s.ppu.ly < 144 ∧ s.ppu.px = 0 ∧ s.ppu.m3Done = false ∧
    80 ≤ s.ppu.lx ∧ s.ppu.lx + s.ppu.m3Skip + 160 < 456 := by decide

-- the dot before dot 80 of the first and of the last visible scanline
theorem witness_ModeThreeLength_start : ∀ y ∈ [0, 143],
    let s : State := { State.reset with ppu := { State.reset.ppu with lx := 79, ly := y } }
    s.ppu.lcdOn = true ∧ s.ppu.ly < 144 ∧ s.ppu.lx = 79 := by decide

/-- The reset state with another LCDC. -/
def withLcdc (v : Byte) : State := { State.reset with ppu := { State.reset.ppu with lcdc := v } }

theorem witness_LcdSwitch : (withLcdc 0x80#8).ppu.lcdc.getLsbD 7 = true ∧ (0x7F#8).getLsbD 7 = false ∧
    (withLcdc 0x00#8).ppu.lcdc.getLsbD 7 = false ∧ (0x80#8).getLsbD 7 = true ∧ (withLcdc 0x00#8).ppu.lcdOn = false := by
  decide

theorem witness_TriggerNeedsConverter : State.reset.apu.on = true ∧ (0x80#8).getLsbD 7 = true ∧
    State.reset.apu.ch1.r2 ≠ 0#8 ∧ State.reset.apu.ch2.r2 = 0#8 ∧ State.reset.apu.ch3.r0.getLsbD 7 = false ∧
    State.reset.apu.ch4.r2 = 0#8 := by decide

theorem witness_ApuSwitchedOff : State.reset.apu.on = true ∧ (0x7F#8).getLsbD 7 = false ∧
    0xFF10 ≤ (0xFF10#16).toNat ∧ (0xFF25#16).toNat ≤ 0xFF25 := by decide

theorem witness_MixStaysInRange : State.reset.apu.ch1.vol ≤ 15 ∧ State.reset.apu.ch2.vol ≤ 15 ∧
    State.reset.apu.ch4.vol ≤ 15 ∧ State.reset.apu.ch1.en = false ∧ State.reset.apu.ch2.en = false ∧
    State.reset.apu.ch3.en = false ∧ State.reset.apu.ch4.en = false := by decide

/-- A cartridge with mapper type 5. -/
def withMbc5 : State :=
  { State.reset with cart := ⟨[], [], 512, 4, false, .mbc5 ⟨true, 1#8, 0#1, 0#4⟩⟩ }

theorem witness_CartridgeWindows : 0x3FFF < 0x4000 ∧ 0 < withMbc5.cart.romBanks ∧ withMbc5.cart.mapper ≠ .none ∧
    0xA000 ≤ (0xA000#16).toNat ∧ (0xBFFF#16).toNat ≤ 0xBFFF := by decide

theorem witness_CartridgeWindows_ram : withMbc5.Canonical := by
  constructor <;> first | decide | (constructor <;> decide)

-- V7: 4 RAM banks, type 5, write 0x0F to 0x4000: bank 15 mod 4 = 3
theorem test_mbc5_ram_bank :
    (busWrite (busWrite withMbc5 0x0000#16 0x0A#8) 0x4000#16 0x0F#8).storeTarget 0xA001#16 = some (.eram 0x6001) := by decide

-- R662: type 1, mode 1, 64 banks, high selector 2: window 0 shows bank 64 mod 64 = 0; high selector 1: bank 32
theorem test_mbc1_window0 : (⟨[], [], 64, 0, false, .mbc1 ⟨false, 1#5, 1#2, true⟩⟩ : Cart).window0 = 32 ∧
    (⟨[], [], 64, 0, false, .mbc1 ⟨false, 1#5, 2#2, true⟩⟩ : Cart).window0 = 0 ∧
    (⟨[], [], 32, 0, false, .mbc1 ⟨false, 1#5, 1#2, true⟩⟩ : Cart).window0 = 0 := by decide

/-- The clock of the worked example R675. -/
def exampleClock (halt : Bool) : Rtc :=
  ⟨⟨50#6, 59#6, 23#5, 0xFF#8, true, halt, false⟩, ⟨0#6, 0#6, 0#5, 0#8, false, false, false⟩, 1000⟩

theorem witness_ClockAddsElapsedSeconds : (exampleClock false).anchor ≤ 1015 ∧ (exampleClock false).live.halt = false ∧
    (exampleClock true).anchor ≤ 1000 ∧ (exampleClock true).live.halt = true := by decide

-- R675: 15 seconds later the day counter has wrapped
theorem test_clock_example : ((exampleClock false).update 1015).live =
    ⟨5#6, 0#6, 0#5, 0#8, false, false, true⟩ := by decide

theorem witness_ResetValues : (∀ k, Cell.vram 0 ≠ .rom k) ∧ (∀ k, Cell.vram 0 ≠ .eram k) ∧ (∀ k, Cell.vram 0 ≠ .mbc2 k) := by
  simp

theorem witness_StepKeepsCpuAndPpuInvariant : State.reset.HaltStopExclusive ∧ State.reset.ppu.Ok ∧
    ∃ t, step State.reset = .next t := 
  ⟨by unfold State.HaltStopExclusive; decide, reset_ppu_ok, witness_step_of_reset⟩

theorem witness_StepKeepsDeviceInvariants : State.reset.apu.Ok ∧ State.reset.SamplerOk ∧ State.reset.MonoOk ∧
    State.reset.EnginesOk ∧ ∃ t, step State.reset = .next t :=
  ⟨reset_apu_ok, by constructor <;> decide, by constructor <;> decide, by constructor <;> decide, witness_step_of_reset⟩

-- R611: the longest period of channel 4, the upper end of its counter's range
theorem test_longest_noise_period : noisePeriod 0xF7#8 = 112 * 2 ^ 15 ∧ noisePeriod 0xE7#8 = 1835008 := by decide

/-- A state whose APU counters stand at the upper ends of their ranges. -/
def atUpperEnds : State :=
  { State.reset with apu :=
    { State.reset.apu with
      ch1 := { State.reset.apu.ch1 with pcnt := 2048, vol := 15, envCnt := 7, len := 64, dutyPos := 7 }
      ch2 := { State.reset.apu.ch2 with pcnt := 2048, vol := 15, envCnt := 7, len := 64, dutyPos := 7 }
      ch3 := { State.reset.apu.ch3 with pcnt := 2048, len := 256, pos := 31 }
      ch4 := { State.reset.apu.ch4 with pcnt := 3670016, vol := 15, envCnt := 7, len := 64 }
      sweepCnt := 7, phase := 3, fseqCnt := 8191, fseqStep := 7, sampleCnt := 94, audioWr := 1023 } }

theorem witness_StepKeepsDeviceInvariants_upper : atUpperEnds.apu.Ok ∧ atUpperEnds.SamplerOk := by
  constructor <;> constructor <;> decide

end Sys2Proof.Tests
end

section
/-! SUPPORT. What is fixed while the machine runs: the cartridge image, its bank counts, the mode and the open parameters
(00_scope.md R8; 20_memory.md R113; 65_cartridge.md R650; 70_reset_and_hazards.md R701). Settles
`Obligations.RomAndModeNeverChange`. -/
namespace Sys2Proof.Machine

/-- What the image alone decides in a cartridge: its bytes and its bank counts. -/
def Cart.image (c : Cart) : Memory × Nat × Nat := (c.rom, c.romBanks, c.ramBanks)

/-- What no step changes: the cartridge's image and bank counts, the mode and the open parameters. -/
def State.fixed (s : State) : (Memory × Nat × Nat) × Bool × Config.Params := (s.cart.image, s.cgb, s.params)

theorem State.fixed_eq_iff (s t : State) :
    t.fixed = s.fixed ↔
      t.cart.rom = s.cart.rom ∧ t.cart.romBanks = s.cart.romBanks ∧ t.cart.ramBanks = s.cart.ramBanks ∧
      t.cgb = s.cgb ∧ t.params = s.params := by
  simp only [State.fixed, Cart.image, Prod.mk.injEq, and_assoc]

/-! ### The cartridge -/

theorem Cart.control_image (c : Cart) (i : Inputs) (a : Nat) (v : Byte) : (c.control i a v).1.image = c.image := by
  unfold Cart.control; split <;> rfl

theorem Cart.ramWrite_image (c : Cart) (i : Inputs) (a : Nat) (v : Byte) : (c.ramWrite i a v).1.image = c.image := by
  unfold Cart.ramWrite
  split
  · rfl
  · rfl
  · split <;> rfl
  · rfl

theorem Cart.write_image (c : Cart) (i : Inputs) (a : Nat) (v : Byte) : (c.write i a v).1.image = c.image := by
  unfold Cart.write
  split
  · exact Cart.control_image ..
  · exact Cart.ramWrite_image ..

/-! ### CPU writes and time -/

theorem ioWriteReg_cart (s : State) (r : IoReg) (v : Byte) : (ioWriteReg s r v).cart = s.cart := by
  cases r <;> rfl

theorem ioWrite_cart (s : State) (lo : Nat) (v : Byte) : (ioWrite s lo v).cart = s.cart := by
  unfold ioWrite; split
  · exact ioWriteReg_cart ..
  · rfl

/-- A write reaches the cartridge through the two cartridge ranges of the decode only. -/
theorem busWriteRegion_image (s : State) (r : Region) (v : Byte) :
    (busWriteRegion s r v).cart.image = s.cart.image := by
  cases r with
  | rom a => exact Cart.write_image ..
  | cartRam a => exact Cart.write_image ..
  | io lo => exact congrArg Cart.image (ioWrite_cart ..)
  | _ => rfl

theorem busWrite_fixed (s : State) (a : Word) (v : Byte) : (busWrite s a v).fixed = s.fixed := by
  have himage : (busWrite s a v).cart.image = s.cart.image := busWriteRegion_image ..
  simp only [State.fixed, himage, busWrite_cgb, busWrite_params]

theorem advanceM_fixed (s : State) : (advanceM s).fixed = s.fixed := by
  simp only [State.fixed, advanceM_cart, advanceM_cgb, advanceM_params]

/-! ### Every step -/

/-- The primitives that are no write and no passing of time touch none of the fixed parts. -/
theorem keeps_fixed (s : State) : Keeps (fun t => t.fixed = s.fixed) where
  cpu _ _ h := h
  write t a v h := (busWrite_fixed t a v).trans h
  time t h := (advanceM_fixed t).trans h
  hdma _ _ h := h
  ack _ _ h := h
  divReset _ h := h
  speed _ _ h := h

/-- Settles O36: every primitive of a step keeps the fixed parts, so the step does. -/
theorem romAndModeNeverChange : Obligations.RomAndModeNeverChange :=
  fun s t hstep => (State.fixed_eq_iff s t).mp ((keeps_fixed s).step_next rfl hstep)

end Sys2Proof.Machine
end

section
/-! SUPPORT. What a CPU write and an M-cycle can do to the units, said once: a write outside the registers leaves every
unit alone (20_memory.md R111, R120), and an M-cycle is T-cycles and dots (R106 to R108). With them the canonical form of
the storage arrays is kept by every step (10_state.md R28). Settles `Obligations.StepKeepsCanonicalMemory`. -/
namespace Sys2Proof.Machine

/-- The units of `t` stand as those of `s`; storage, cartridge, interrupt controller and ports may differ. -/
structure SameUnits (s t : State) : Prop where
  cgb : t.cgb = s.cgb
  params : t.params = s.params
  timer : t.timer = s.timer
  speed : t.speed = s.speed
  banks : t.banks = s.banks
  dma : t.dma = s.dma
  hdma : t.hdma = s.hdma
  ppu : t.ppu = s.ppu
  apu : t.apu = s.apu

/-- An extended-mode register is found in extended mode only (10_state.md R29). -/
theorem ioRegAt_isExt {cgb : Bool} {lo : Nat} {r : IoReg} (h : ioRegAt cgb lo = some r) (hr : r.isExt = true) :
    cgb = true := by
  unfold ioRegAt at h
  split at h
  · cases h; cases hr
  · split at h
    · split at h
      · cases h
      · rename_i hc
        cases h
        simpa [hr] using hc
    · cases h

/-- A CPU write leaves the units alone, or is the write of a register that the mode has. -/
theorem busWrite_cases (s : State) (a : Word) (v : Byte) :
    SameUnits s (busWrite s a v) ∨
      ∃ r : IoReg, (r.isExt = true → s.cgb = true) ∧ busWrite s a v = ioWriteReg s r v := by
  unfold busWrite busWriteRegion
  split
  case h_8 lo _ =>
    unfold ioWrite
    split
    · exact .inr ⟨_, ioRegAt_isExt ‹_›, rfl⟩
    · exact .inl ⟨rfl, rfl, rfl, rfl, rfl, rfl, rfl, rfl, rfl⟩
  all_goals exact .inl ⟨rfl, rfl, rfl, rfl, rfl, rfl, rfl, rfl, rfl⟩

/-- A property of the units that every register write keeps, every CPU write keeps. -/
theorem busWrite_keeps {P : State → Prop} {s : State} (a : Word) (v : Byte) (same : ∀ t, SameUnits s t → P t)
    (reg : ∀ r : IoReg, (r.isExt = true → s.cgb = true) → P (ioWriteReg s r v)) : P (busWrite s a v) := by
  obtain hsame | ⟨r, hext, hreg⟩ := busWrite_cases s a v
  · exact same _ hsame
  · rw [hreg]; exact reg r hext

/-- What every CPU T-cycle and every dot keep, an M-cycle keeps. -/
theorem advanceM_keeps {P : State → Prop} (fast : ∀ k t, P t → P (tickFast k t)) (slow : ∀ t, P t → P (tickSlow t))
    (s : State) (h : P s) : P (advanceM s) := by
  have tick : ∀ k t, P t → P (tickT k t) := by
    intro k t ht
    unfold tickT
    split
    · exact slow _ (fast k t ht)
    · exact fast k t ht
  exact tick 3 _ (tick 2 _ (tick 1 _ (tick 0 _ h)))

/-! ### Storage -/

theorem keeps_canonical : Keeps State.Canonical where
  cpu _ _ h := { h with }
  write _ a v h := busWrite_canonical a v h
  time _ h := advanceM_canonical h
  hdma _ _ h := hdmaCopyByte_canonical h
  ack _ _ h := { h with }
  divReset _ h := { h with }
  speed _ _ h := { h with }

/-- Settles O58: every primitive of a step keeps the canonical form, so the step does. -/
theorem stepKeepsCanonicalMemory : Obligations.StepKeepsCanonicalMemory :=
  fun _ _ h hstep => keeps_canonical.step_next h hstep

end Sys2Proof.Machine
end

section
/-! SUPPORT. The APU's ranges (64_apu.md R581, R597; log entry 14), unit by unit: the square, wave and noise channels and the
frame sequencer. Every tick and every register write keeps them, so every step does. -/
namespace Sys2Proof.Machine

open Sys2Proof.Config

/-! ### The invariant by units -/

/-- The part of `Apu.Ok` about a square channel. -/
structure SquareCh.Ok (c : SquareCh) : Prop where
  dac : c.en = true → c.r2 ≠ 0#8
  vol : c.vol ≤ 15
  pcnt : c.pcnt ≤ 2048
  env : c.envCnt ≤ 7
  len : c.len ≤ 64
  duty : c.dutyPos < 8

/-- The part of `Apu.Ok` about the wave channel. -/
structure WaveCh.Ok (c : WaveCh) : Prop where
  dac : c.en = true → bit c.r0 7 = true
  pcnt : c.pcnt ≤ 2048
  len : c.len ≤ 256
  pos : c.pos < 32

/-- The part of `Apu.Ok` about the noise channel. -/
structure NoiseCh.Ok (c : NoiseCh) : Prop where
  dac : c.en = true → c.r2 ≠ 0#8
  vol : c.vol ≤ 15
  pcnt : c.pcnt ≤ 112 * 2 ^ 15
  env : c.envCnt ≤ 7
  len : c.len ≤ 64

/-- The part of `Apu.Ok` about the sweep counter, the dot phase and the frame sequencer. -/
structure Apu.SequencerOk (a : Apu) : Prop where
  sweep : a.sweepCnt ≤ 7
  phase : a.phase < 4
  fseqCnt : a.fseqCnt < fseqPeriodT
  fseqStep : a.fseqStep < 8

/-- `Apu.Ok` by units. -/
structure Apu.UnitsOk (a : Apu) : Prop where
  ch1 : a.ch1.Ok
  ch2 : a.ch2.Ok
  ch3 : a.ch3.Ok
  ch4 : a.ch4.Ok
  seq : a.SequencerOk

theorem Apu.ok_iff_unitsOk (a : Apu) : a.Ok ↔ a.UnitsOk where
  mp h :=
    { ch1 := ⟨h.dac1, h.vol1, h.pcnt1, h.env1, h.len1, h.duty1⟩
      ch2 := ⟨h.dac2, h.vol2, h.pcnt2, h.env2, h.len2, h.duty2⟩
      ch3 := ⟨h.dac3, h.pcnt3, h.len3, h.wavePos⟩
      ch4 := ⟨h.dac4, h.vol4, h.pcnt4, h.env4, h.len4⟩
      seq := ⟨h.sweep, h.phase, h.fseqCnt, h.fseqStep⟩ }
  mpr h :=
    { dac1 := h.ch1.dac, dac2 := h.ch2.dac, dac3 := h.ch3.dac, dac4 := h.ch4.dac
      vol1 := h.ch1.vol, vol2 := h.ch2.vol, vol4 := h.ch4.vol
      pcnt1 := h.ch1.pcnt, pcnt2 := h.ch2.pcnt, pcnt3 := h.ch3.pcnt, pcnt4 := h.ch4.pcnt
      env1 := h.ch1.env, env2 := h.ch2.env, env4 := h.ch4.env
      len1 := h.ch1.len, len2 := h.ch2.len, len3 := h.ch3.len, len4 := h.ch4.len
      sweep := h.seq.sweep, duty1 := h.ch1.duty, duty2 := h.ch2.duty, wavePos := h.ch3.pos
      phase := h.seq.phase, fseqCnt := h.seq.fseqCnt, fseqStep := h.seq.fseqStep }

/-! ### The numbers a register field can give -/

theorem slice_lt (v : Byte) (lo n : Nat) : slice v lo n < 2 ^ n := Nat.mod_lt _ (Nat.two_pow_pos n)

theorem slice_three_le (v : Byte) (lo : Nat) : slice v lo 3 ≤ 7 := Nat.le_of_lt_succ (slice_lt v lo 3)

theorem slice_four_le (v : Byte) (lo : Nat) : slice v lo 4 ≤ 15 := Nat.le_of_lt_succ (slice_lt v lo 4)

theorem noiseDiv_le (code : Nat) : noiseDiv code ≤ 112 := by
  unfold noiseDiv; split <;> decide

/-- The longest period of R611 (log entry 14). -/
theorem noisePeriod_le (v : Byte) : noisePeriod v ≤ 112 * 2 ^ 15 := by
  rw [noisePeriod, Nat.shiftLeft_eq]
  exact Nat.mul_le_mul (noiseDiv_le _) (Nat.pow_le_pow_right (by decide) (slice_four_le v 4))

theorem length_of_slice_le (v : Byte) : 64 - slice v 0 6 ≤ 64 := Nat.sub_le ..

theorem period_of_wavelength_le (r3 r4 : Byte) : 2048 - wavelength r3 r4 ≤ 2048 := Nat.sub_le ..

/-! ### The generators -/

theorem SquareCh.Ok.tick {c : SquareCh} (h : c.Ok) : c.tick.Ok := by
  unfold SquareCh.tick
  split
  · split
    · exact { h with pcnt := period_of_wavelength_le .., duty := Nat.mod_lt _ (by decide) }
    · exact { h with pcnt := (Nat.sub_le ..).trans h.pcnt }
  · exact h

theorem WaveCh.Ok.tick {c : WaveCh} (h : c.Ok) : c.tick.Ok := by
  unfold WaveCh.tick
  split
  · split
    · exact { h with pcnt := period_of_wavelength_le .., pos := Nat.mod_lt _ (by decide) }
    · exact { h with pcnt := (Nat.sub_le ..).trans h.pcnt }
  · exact h

theorem NoiseCh.Ok.tick {c : NoiseCh} (h : c.Ok) : c.tick.Ok := by
  unfold NoiseCh.tick
  split
  · split
    · exact { h with pcnt := noisePeriod_le _ }
    · exact { h with pcnt := (Nat.sub_le ..).trans h.pcnt }
  · exact h

theorem Apu.UnitsOk.generators {a : Apu} (h : a.UnitsOk) : a.generators.UnitsOk where
  ch1 := by dsimp only [Apu.generators]; split; exacts [h.ch1.tick, h.ch1]
  ch2 := by dsimp only [Apu.generators]; split; exacts [h.ch2.tick, h.ch2]
  ch3 := by dsimp only [Apu.generators]; split; exacts [h.ch3.tick, h.ch3]
  ch4 := h.ch4.tick
  seq := { h.seq with phase := Nat.mod_lt _ (by decide) }

/-! ### The frame sequencer -/

theorem lengthStep_len_le (r4 : Byte) (len : Nat) (en : Bool) : (lengthStep r4 len en).1 ≤ len := by
  unfold lengthStep; split
  · exact Nat.sub_le ..
  · exact Nat.le_refl _

/-- The length counter disables a channel and never enables one. -/
theorem of_lengthStep_en {r4 : Byte} {len : Nat} {en : Bool} (h : (lengthStep r4 len en).2 = true) : en = true := by
  unfold lengthStep at h
  split at h
  · exact (Bool.and_eq_true_iff.mp h).1
  · exact h

theorem Apu.UnitsOk.lengthTick {a : Apu} (h : a.UnitsOk) : a.lengthTick.UnitsOk where
  ch1 := { h.ch1 with dac := fun e => h.ch1.dac (of_lengthStep_en e), len := (lengthStep_len_le ..).trans h.ch1.len }
  ch2 := { h.ch2 with dac := fun e => h.ch2.dac (of_lengthStep_en e), len := (lengthStep_len_le ..).trans h.ch2.len }
  ch3 := { h.ch3 with dac := fun e => h.ch3.dac (of_lengthStep_en e), len := (lengthStep_len_le ..).trans h.ch3.len }
  ch4 := { h.ch4 with dac := fun e => h.ch4.dac (of_lengthStep_en e), len := (lengthStep_len_le ..).trans h.ch4.len }
  seq := { h.seq with }

theorem envelopeStep_vol_le (r2 : Byte) {vol : Nat} (cnt : Nat) (h : vol ≤ 15) : (envelopeStep r2 vol cnt).1 ≤ 15 := by
  unfold envelopeStep
  dsimp only
  split
  · exact h
  · split
    · dsimp only; split
      · split <;> omega
      · omega
    · exact h

theorem envelopeStep_cnt_le (r2 : Byte) (vol : Nat) {cnt : Nat} (h : cnt ≤ 7) : (envelopeStep r2 vol cnt).2 ≤ 7 := by
  unfold envelopeStep
  dsimp only
  split
  · exact h
  · split
    · exact slice_three_le r2 0
    · exact (Nat.sub_le ..).trans h

theorem Apu.UnitsOk.envelopeTick {a : Apu} (h : a.UnitsOk) : a.envelopeTick.UnitsOk where
  ch1 := { h.ch1 with vol := envelopeStep_vol_le _ _ h.ch1.vol, env := envelopeStep_cnt_le _ _ h.ch1.env }
  ch2 := { h.ch2 with vol := envelopeStep_vol_le _ _ h.ch2.vol, env := envelopeStep_cnt_le _ _ h.ch2.env }
  ch3 := h.ch3
  ch4 := { h.ch4 with vol := envelopeStep_vol_le _ _ h.ch4.vol, env := envelopeStep_cnt_le _ _ h.ch4.env }
  seq := { h.seq with }

/-- The sweep changes the wavelength or disables the channel (R589). -/
theorem SquareCh.Ok.sweepStep {c : SquareCh} (nr10 : Byte) (h : c.Ok) : (sweepStep nr10 c).Ok := by
  have hwave : ∀ n, (c.setWavelength n).Ok := fun _ => { h with }
  unfold Machine.sweepStep
  dsimp only
  split
  · split
    · exact hwave _
    · exact h
  · split
    · exact { h with dac := fun e => by cases e }
    · split
      · exact hwave _
      · exact h

theorem Apu.UnitsOk.sweepTick {a : Apu} (h : a.UnitsOk) : a.sweepTick.UnitsOk := by
  unfold Apu.sweepTick
  dsimp only
  split
  · exact h
  · split
    · exact { h with ch1 := h.ch1.sweepStep _, seq := { h.seq with sweep := slice_three_le _ _ } }
    · exact { h with seq := { h.seq with sweep := (Nat.sub_le ..).trans h.seq.sweep } }

theorem Apu.UnitsOk.frameSeqStep {a : Apu} (h : a.UnitsOk) : a.frameSeqStep.UnitsOk := by
  have h1 : Apu.UnitsOk { a with fseqStep := (a.fseqStep + 1) % 8 } :=
    { h with seq := { h.seq with fseqStep := Nat.mod_lt _ (by decide) } }
  have ite_ok : ∀ {p : Prop} [Decidable p] {b c : Apu}, b.UnitsOk → c.UnitsOk → (if p then b else c).UnitsOk :=
    fun hb hc => by split <;> assumption
  have h2 := ite_ok (p := a.fseqStep = 0 ∨ a.fseqStep = 2 ∨ a.fseqStep = 4 ∨ a.fseqStep = 6) h1.lengthTick h1
  have h3 := ite_ok (p := a.fseqStep = 2 ∨ a.fseqStep = 6) h2.sweepTick h2
  exact ite_ok h3.envelopeTick h3

theorem Apu.UnitsOk.sequencer {a : Apu} (h : a.UnitsOk) : a.sequencer.UnitsOk := by
  unfold Apu.sequencer
  split
  · exact Apu.UnitsOk.frameSeqStep { h with seq := { h.seq with fseqCnt := (by decide : 0 < fseqPeriodT) } }
  · exact { h with seq := { h.seq with fseqCnt := Nat.lt_of_le_of_ne h.seq.fseqCnt ‹_› } }

/-- The sample output is no part of the ranges. -/
theorem Apu.UnitsOk.sampleTick {a : Apu} (p : Params) (w : Memory) (h : a.UnitsOk) : (a.sampleTick p w).UnitsOk := by
  unfold Apu.sampleTick Apu.putSample
  dsimp only
  split
  · split <;> exact { h with seq := { h.seq with } }
  · exact { h with seq := { h.seq with } }

theorem Apu.UnitsOk.tick {a : Apu} (p : Params) (w : Memory) (h : a.UnitsOk) : (a.tick p w).UnitsOk := by
  unfold Apu.tick
  split
  · exact h.generators.sequencer.sampleTick p w
  · exact h.sampleTick p w

/-! ### Register writes -/

theorem SquareCh.Ok.trigger {c : SquareCh} (h : c.Ok) : c.trigger.Ok := by
  unfold SquareCh.trigger
  split
  · exact h
  · exact ⟨fun _ => ‹_›, slice_four_le _ _, period_of_wavelength_le .., slice_three_le _ _, length_of_slice_le _,
      Nat.succ_pos _⟩

theorem WaveCh.Ok.trigger {c : WaveCh} (h : c.Ok) : c.trigger.Ok := by
  unfold WaveCh.trigger
  split
  · exact ⟨fun _ => ‹_›, period_of_wavelength_le .., Nat.sub_le .., Nat.succ_pos _⟩
  · exact h

theorem NoiseCh.Ok.trigger {c : NoiseCh} (h : c.Ok) : c.trigger.Ok := by
  unfold NoiseCh.trigger
  split
  · exact h
  · exact ⟨fun _ => ‹_›, slice_four_le _ _, noisePeriod_le _, slice_three_le _ _, length_of_slice_le _⟩

theorem SquareCh.Ok.writeR1 {c : SquareCh} (v : Byte) (h : c.Ok) : (c.writeR1 v).Ok :=
  { h with len := length_of_slice_le v }

/-- A write of the volume register with an enabled channel left has a byte that is not 0 (R597). -/
theorem ne_zero_of_en_and_ne {en : Bool} {v : Byte} (h : (en && v != 0#8) = true) : v ≠ 0#8 :=
  bne_iff_ne.mp (Bool.and_eq_true_iff.mp h).2

theorem SquareCh.Ok.writeR2 {c : SquareCh} (v : Byte) (h : c.Ok) : (c.writeR2 v).Ok :=
  { h with dac := ne_zero_of_en_and_ne }

theorem SquareCh.Ok.writeR4 {c : SquareCh} (v : Byte) (h : c.Ok) : (c.writeR4 v).Ok := by
  have h' : SquareCh.Ok { c with r4 := v &&& 0x47#8 } := { h with }
  unfold SquareCh.writeR4
  dsimp only
  split
  · exact h'.trigger
  · exact h'

theorem WaveCh.Ok.writeR4 {c : WaveCh} (v : Byte) (h : c.Ok) : (c.writeR4 v).Ok := by
  have h' : WaveCh.Ok { c with r4 := v &&& 0x47#8 } := { h with }
  unfold WaveCh.writeR4
  dsimp only
  split
  · exact h'.trigger
  · exact h'

theorem NoiseCh.Ok.writeR4 {c : NoiseCh} (v : Byte) (h : c.Ok) : (c.writeR4 v).Ok := by
  have h' : NoiseCh.Ok { c with r4 := v &&& 0x40#8 } := { h with }
  unfold NoiseCh.writeR4
  dsimp only
  split
  · exact h'.trigger
  · exact h'

/-- A write of NR30 with the channel left enabled has bit 7 set (R603). -/
theorem WaveCh.Ok.writeR0 {c : WaveCh} (v : Byte) (h : c.Ok) :
    WaveCh.Ok { c with r0 := v &&& 0x80#8, en := c.en && bit v 7 } where
  dac e := by
    have hv : v.getLsbD 7 = true := (Bool.and_eq_true_iff.mp e).2
    simp [bit, hv]
  pcnt := h.pcnt
  len := h.len
  pos := h.pos

theorem Apu.UnitsOk.storeReg {a : Apu} (r : ApuReg) (v : Byte) (h : a.UnitsOk) : (a.storeReg r v).UnitsOk := by
  have hs : a.SequencerOk := h.seq
  cases r with
  | nr11 => exact { h with ch1 := h.ch1.writeR1 v, seq := { hs with } }
  | nr12 => exact { h with ch1 := h.ch1.writeR2 v, seq := { hs with } }
  | nr13 => exact { h with ch1 := { h.ch1 with }, seq := { hs with } }
  | nr14 =>
    refine { h with ch1 := h.ch1.writeR4 v, seq := { hs with sweep := ?_ } }
    dsimp only [Apu.storeReg]
    split
    · exact slice_three_le _ _
    · exact hs.sweep
  | nr21 => exact { h with ch2 := h.ch2.writeR1 v, seq := { hs with } }
  | nr22 => exact { h with ch2 := h.ch2.writeR2 v, seq := { hs with } }
  | nr23 => exact { h with ch2 := { h.ch2 with }, seq := { hs with } }
  | nr24 => exact { h with ch2 := h.ch2.writeR4 v, seq := { hs with } }
  | nr30 => exact { h with ch3 := h.ch3.writeR0 v, seq := { hs with } }
  | nr31 => exact { h with ch3 := { h.ch3 with len := Nat.sub_le .. }, seq := { hs with } }
  | nr32 => exact { h with ch3 := { h.ch3 with }, seq := { hs with } }
  | nr33 => exact { h with ch3 := { h.ch3 with }, seq := { hs with } }
  | nr34 => exact { h with ch3 := h.ch3.writeR4 v, seq := { hs with } }
  | nr41 => exact { h with ch4 := { h.ch4 with len := length_of_slice_le v }, seq := { hs with } }
  | nr42 => exact { h with ch4 := { h.ch4 with dac := ne_zero_of_en_and_ne }, seq := { hs with } }
  | nr43 => exact { h with ch4 := { h.ch4 with }, seq := { hs with } }
  | nr44 => exact { h with ch4 := h.ch4.writeR4 v, seq := { hs with } }
  | nr10 | nr50 | nr51 => exact { h with seq := { hs with } }

theorem Apu.UnitsOk.writeReg {a : Apu} (r : ApuReg) (v : Byte) (h : a.UnitsOk) : (a.writeReg r v).UnitsOk := by
  unfold Apu.writeReg
  split
  · exact h.storeReg r v
  · exact h

/-- A square channel after the APU is turned off (R630). -/
theorem SquareCh.ok_cleared : SquareCh.Ok ⟨0#8, 0#8, 0#8, 0#8, false, 0, 0, 0, 0, 0⟩ := by constructor <;> decide

/-- The wave channel after the APU is turned off (R630). -/
theorem WaveCh.ok_cleared : WaveCh.Ok ⟨0#8, 0#8, 0#8, 0#8, 0#8, false, 0, 0, 0⟩ := by constructor <;> decide

/-- The noise channel after the APU is turned off (R630). -/
theorem NoiseCh.ok_cleared : NoiseCh.Ok ⟨0#8, 0#8, 0#8, 0#8, false, 0, 0x7FFF#15, 0, 0, 0⟩ := by
  constructor <;> decide

theorem Apu.UnitsOk.powerOff {a : Apu} (h : a.UnitsOk) : a.powerOff.UnitsOk where
  ch1 := SquareCh.ok_cleared
  ch2 := SquareCh.ok_cleared
  ch3 := WaveCh.ok_cleared
  ch4 := NoiseCh.ok_cleared
  seq := { h.seq with sweep := Nat.zero_le _ }

theorem Apu.UnitsOk.writeNr52 {a : Apu} (v : Byte) (h : a.UnitsOk) : (a.writeNr52 v).UnitsOk := by
  unfold Apu.writeNr52
  split
  · split
    · exact h
    · exact { h with seq :=
        { h.seq with phase := Nat.succ_pos _, fseqCnt := (by decide : 0 < fseqPeriodT), fseqStep := Nat.succ_pos _ } }
  · split
    · exact h.powerOff
    · exact h

/-! ### Every step -/

theorem ioWriteReg_apu_unitsOk {s : State} (r : IoReg) (v : Byte) (h : s.apu.UnitsOk) :
    (ioWriteReg s r v).apu.UnitsOk := by
  cases r with
  | apu r => exact h.writeReg r v
  | nr52 => exact h.writeNr52 v
  | _ => exact h

theorem keeps_apu_unitsOk : Keeps (fun s => s.apu.UnitsOk) where
  cpu _ _ h := h
  write _ a v h := busWrite_keeps a v (fun _ e => e.apu ▸ h) (fun r _ => ioWriteReg_apu_unitsOk r v h)
  time := advanceM_keeps (fun k t h => (tickFast_apu k t) ▸ h) (fun t h => h.tick t.params t.wave)
  hdma _ _ h := h
  ack _ _ h := h
  divReset _ h := h
  speed _ _ h := h

theorem step_keeps_apuOk {s t : State} (h : s.apu.Ok) (hstep : step s = .next t) : t.apu.Ok :=
  (Apu.ok_iff_unitsOk _).mpr (keeps_apu_unitsOk.step_next ((Apu.ok_iff_unitsOk _).mp h) hstep)

end Sys2Proof.Machine
end

section
/-! SUPPORT. The sample output (64_apu.md R621), what only extended mode has (20_memory.md R124; 46_system_control.md R347;
62_dma_hdma.md R490), and the transfer engines with the timer's reload latch (10_state.md R30). Settles
`Obligations.StepKeepsDeviceInvariants`. -/
namespace Sys2Proof.Machine

open Sys2Proof.Config

/-! ### The sample output -/

/-- The two counters of the sample output (64_apu.md R581). -/
def Apu.sampler (a : Apu) : Nat × Nat := (a.sampleCnt, a.audioWr)

theorem Apu.sweepTick_sampler (a : Apu) : a.sweepTick.sampler = a.sampler := by
  unfold Apu.sweepTick
  dsimp only
  split
  · rfl
  · split <;> rfl

theorem Apu.frameSeqStep_sampler (a : Apu) : a.frameSeqStep.sampler = a.sampler := by
  have hlength : ∀ b : Apu, b.lengthTick.sampler = b.sampler := fun _ => rfl
  have henvelope : ∀ b : Apu, b.envelopeTick.sampler = b.sampler := fun _ => rfl
  unfold Apu.frameSeqStep
  simp only [apply_ite Apu.sampler, henvelope, Apu.sweepTick_sampler, hlength, ite_self]
  rfl

theorem Apu.sequencer_sampler (a : Apu) : a.sequencer.sampler = a.sampler := by
  unfold Apu.sequencer
  split
  · exact Apu.frameSeqStep_sampler _
  · rfl

theorem Apu.writeReg_sampler (a : Apu) (r : ApuReg) (v : Byte) : (a.writeReg r v).sampler = a.sampler := by
  unfold Apu.writeReg
  split
  · cases r <;> rfl
  · rfl

theorem Apu.writeNr52_sampler (a : Apu) (v : Byte) : (a.writeNr52 v).sampler = a.sampler := by
  unfold Apu.writeNr52
  split <;> split <;> rfl

/-- The counters of the sample output stand below the parameters that bound them. -/
def Apu.SamplerBelow (p : Params) (a : Apu) : Prop := a.sampler.1 < p.samplePeriod ∧ a.sampler.2 < p.audioBufSamples

theorem Apu.SamplerBelow.congr {p : Params} {a b : Apu} (h : a.SamplerBelow p) (e : b.sampler = a.sampler) :
    b.SamplerBelow p := by
  unfold Apu.SamplerBelow
  rw [e]; exact h

theorem State.samplerOk_iff (s : State) : s.SamplerOk ↔ s.apu.SamplerBelow s.params :=
  ⟨fun h => ⟨h.sampleCnt, h.audioWr⟩, fun h => ⟨h.1, h.2⟩⟩

theorem Apu.SamplerBelow.putSample {p : Params} (w : Memory) {a : Apu} (h : a.SamplerBelow p) :
    (a.putSample p w).SamplerBelow p := by
  obtain ⟨hcnt, hwr⟩ := h
  unfold Apu.putSample
  dsimp only
  split
  · exact ⟨hcnt, Nat.zero_lt_of_lt hwr⟩
  · exact ⟨hcnt, Nat.lt_of_le_of_ne hwr ‹_›⟩

theorem Apu.SamplerBelow.sampleTick {p : Params} (w : Memory) {a : Apu} (h : a.SamplerBelow p) :
    (a.sampleTick p w).SamplerBelow p := by
  obtain ⟨hcnt, hwr⟩ := h
  unfold Apu.sampleTick
  split
  · exact Apu.SamplerBelow.putSample w ⟨Nat.zero_lt_of_lt hcnt, hwr⟩
  · exact ⟨Nat.lt_of_le_of_ne hcnt ‹_›, hwr⟩

theorem Apu.SamplerBelow.tick {p : Params} (w : Memory) {a : Apu} (h : a.SamplerBelow p) :
    (a.tick p w).SamplerBelow p := by
  unfold Apu.tick
  refine Apu.SamplerBelow.sampleTick w ?_
  split
  · exact h.congr (Apu.sequencer_sampler _)
  · exact h

theorem ioWriteReg_sampler (s : State) (r : IoReg) (v : Byte) : (ioWriteReg s r v).apu.sampler = s.apu.sampler := by
  cases r with
  | apu r => exact Apu.writeReg_sampler ..
  | nr52 => exact Apu.writeNr52_sampler ..
  | _ => rfl

theorem State.SamplerOk.congr {s t : State} (h : s.SamplerOk) (hp : t.params = s.params)
    (ha : t.apu.sampler = s.apu.sampler) : t.SamplerOk :=
  t.samplerOk_iff.mpr (by rw [hp]; exact (s.samplerOk_iff.mp h).congr ha)

theorem keeps_samplerOk : Keeps State.SamplerOk where
  cpu _ _ h := { h with }
  write s a v h := busWrite_keeps a v (fun _ e => h.congr e.params (congrArg Apu.sampler e.apu))
    (fun r _ => h.congr (ioWriteReg_params s r v) (ioWriteReg_sampler s r v))
  time := advanceM_keeps
    (fun k t h => h.congr (tickFast_params k t) (congrArg Apu.sampler (tickFast_apu k t)))
    (fun t h => (tickSlow t).samplerOk_iff.mpr ((t.samplerOk_iff.mp h).tick t.wave))
  hdma _ _ h := { h with }
  ack _ _ h := { h with }
  divReset _ h := { h with }
  speed _ _ h := { h with }

theorem step_keeps_samplerOk {s t : State} (h : s.SamplerOk) (hstep : step s = .next t) : t.SamplerOk :=
  keeps_samplerOk.step_next h hstep

/-! ### Monochrome mode -/

/-- A register that both modes have is none of the extended-mode state. -/
theorem ioWriteReg_mono {s : State} {r : IoReg} (v : Byte) (h : r.isExt = false) :
    (ioWriteReg s r v).speed = s.speed ∧ (ioWriteReg s r v).banks = s.banks ∧ (ioWriteReg s r v).hdma = s.hdma := by
  cases r with
  | key1 | vbk | svbk | hdma1 | hdma2 | hdma3 | hdma4 | hdma5 | bcps | bcpd | ocps | ocpd => cases h
  | _ => exact ⟨rfl, rfl, rfl⟩

theorem ioWriteReg_monoOk {s : State} {r : IoReg} (v : Byte) (hr : r.isExt = true → s.cgb = true) (h : s.MonoOk) :
    (ioWriteReg s r v).MonoOk := by
  have hcgb := ioWriteReg_cgb s r v
  cases hext : r.isExt with
  | true =>
    have hmono : (ioWriteReg s r v).cgb ≠ false := by simp [hcgb, hr hext]
    exact ⟨fun e => absurd e hmono, fun e => absurd e hmono, fun e => absurd e hmono⟩
  | false =>
    obtain ⟨hspeed, hbanks, hhdma⟩ := ioWriteReg_mono (s := s) v hext
    exact ⟨fun e => hspeed.trans (h.speed (hcgb ▸ e)), fun e => hbanks.trans (h.banks (hcgb ▸ e)),
      fun e => hhdma.trans (h.hdma (hcgb ▸ e))⟩

theorem monoOk_of_cgb {s : State} (h : s.cgb = true) : s.MonoOk :=
  ⟨fun e => by simp [h] at e, fun e => by simp [h] at e, fun e => by simp [h] at e⟩

/-- The state that `MonoOk` speaks of, untouched. -/
theorem State.MonoOk.congr {s t : State} (h : s.MonoOk) (hc : t.cgb = s.cgb) (hs : t.speed = s.speed)
    (hb : t.banks = s.banks) (hd : t.hdma = s.hdma) : t.MonoOk :=
  ⟨fun e => hs.trans (h.speed (hc ▸ e)), fun e => hb.trans (h.banks (hc ▸ e)), fun e => hd.trans (h.hdma (hc ▸ e))⟩

/-- An entry into mode 0 asks for an HDMA block in extended mode only (62_dma_hdma.md R495). -/
theorem hblankEntry_mono (d : Hdma) : d.hblankEntry false = d := rfl

theorem tickSlow_monoOk {s : State} (h : s.MonoOk) : (tickSlow s).MonoOk where
  speed := h.speed
  banks := h.banks
  hdma e := by
    have hc : s.cgb = false := e
    simp only [tickSlow, hc, hblankEntry_mono, ite_self, h.hdma hc]

theorem keeps_monoOk : Keeps State.MonoOk where
  cpu _ _ h := { h with }
  write _ a v h := busWrite_keeps a v (fun _ e => h.congr e.cgb e.speed e.banks e.hdma)
    (fun _ hr => ioWriteReg_monoOk v hr h)
  time := advanceM_keeps
    (fun k t h => h.congr (tickFast_cgb k t) (tickFast_speed k t) (tickFast_banks k t) (tickFast_hdma k t))
    (fun _ h => tickSlow_monoOk h)
  hdma _ hc _ := monoOk_of_cgb hc
  ack _ _ h := { h with }
  divReset _ h := { h with }
  speed _ hc _ := monoOk_of_cgb hc

theorem step_keeps_monoOk {s t : State} (h : s.MonoOk) (hstep : step s = .next t) : t.MonoOk :=
  keeps_monoOk.step_next h hstep

/-! ### The transfer engines and the timer latch -/

/-- The part of `State.EnginesOk` about the OAM DMA engine (62_dma_hdma.md R480). -/
structure OamDma.Ok (d : OamDma) : Prop where
  idx : d.idx ≤ dmaLen
  running : d.active = true → d.idx < dmaLen
  src : loByte d.src = 0#8

/-- The part of `State.EnginesOk` about the HDMA engine (62_dma_hdma.md R490, R491). -/
structure Hdma.Ok (d : Hdma) : Prop where
  dst : 0x8000 ≤ d.dst.toNat ∧ d.dst.toNat < 0xA000
  byte : d.byte < 16

/-- The part of `State.EnginesOk` about the timer's reload latch (61_timer_joypad_serial.md R450). -/
def Timer.Ok (t : Timer) : Prop := t.reload ≤ timaReloadDelayT

/-- `State.EnginesOk` by units. -/
structure State.EngineUnitsOk (s : State) : Prop where
  dma : s.dma.Ok
  hdma : s.hdma.Ok
  timer : s.timer.Ok

theorem State.enginesOk_iff (s : State) : s.EnginesOk ↔ s.EngineUnitsOk where
  mp h := ⟨⟨h.dmaIdx, h.dmaRunning, h.dmaSrc⟩, ⟨h.hdmaDst, h.hdmaByte⟩, h.timaReload⟩
  mpr h := ⟨h.dma.idx, h.dma.running, h.dma.src, h.hdma.dst, h.hdma.byte, h.timer⟩

/-- A restart begins at byte 0 of a page (62_dma_hdma.md R481). -/
theorem OamDma.ok_start (v : Byte) : (OamDma.start v).Ok where
  idx := Nat.zero_le _
  running _ := Nat.succ_pos _
  src := loByte_pair v 0x00#8

theorem OamDma.Ok.next {d : OamDma} (h : d.Ok) (hactive : d.active = true) : d.next.Ok where
  idx := h.running hactive
  running e := Nat.lt_of_le_of_ne (h.running hactive) (bne_iff_ne.mp e)
  src := h.src

theorem tickFast_dma_ok (k : Nat) {s : State} (h : s.dma.Ok) : (tickFast k s).dma.Ok := by
  unfold tickFast
  dsimp only
  split
  · unfold oamDmaStep
    dsimp only
    split
    · exact h.next ‹_›
    · exact h
  · exact h

theorem toNat_hiByte (w : Word) : (hiByte w).toNat = w.toNat / 256 := by
  have hpair := toNat_pair (hiByte w) (loByte w)
  rw [pair_hi_lo] at hpair
  have hlo := (loByte w).isLt
  omega

/-- A pair lies in video RAM when its high byte does. -/
theorem pair_mem_vram {hi : Byte} (lo : Byte) (h : 0x80 ≤ hi.toNat ∧ hi.toNat < 0xA0) :
    0x8000 ≤ (pair hi lo).toNat ∧ (pair hi lo).toNat < 0xA000 := by
  have hlo := lo.isLt
  rw [toNat_pair]
  omega

/-- The high byte that HDMA3 stores (62_dma_hdma.md R491). -/
theorem hdma3_mem_vram (v : Byte) :
    0x80 ≤ (0x80#8 ||| (v &&& 0x1F#8)).toNat ∧ (0x80#8 ||| (v &&& 0x1F#8)).toNat < 0xA0 := by
  revert v; decide

theorem Hdma.Ok.writeDstHi {d : Hdma} (v : Byte) (h : d.Ok) : (d.writeDstHi v).Ok :=
  { h with dst := pair_mem_vram _ (hdma3_mem_vram v) }

theorem Hdma.Ok.writeDstLo {d : Hdma} (v : Byte) (h : d.Ok) : (d.writeDstLo v).Ok :=
  { h with dst := pair_mem_vram _ (by rw [toNat_hiByte]; have := h.dst; omega) }

theorem Hdma.Ok.control {d : Hdma} (v : Byte) (h : d.Ok) : (d.control v).Ok := by
  unfold Hdma.control
  split
  · exact { h with }
  · exact { h with byte := Nat.succ_pos _ }

/-- The destination wraps inside video RAM (62_dma_hdma.md R494). -/
theorem hdmaDst_wrap_mem_vram (w : Word) :
    0x8000 ≤ (0x8000#16 ||| (w &&& 0x1FFF#16)).toNat ∧ (0x8000#16 ||| (w &&& 0x1FFF#16)).toNat < 0xA000 := by
  have hoff : w.toNat &&& 0x1FFF < 2 ^ 13 := Nat.lt_of_le_of_lt Nat.and_le_right (by decide)
  have hor : (0x8000#16 ||| (w &&& 0x1FFF#16)).toNat = 2 ^ 15 * 1 + (w.toNat &&& 0x1FFF) := by
    rw [Nat.two_pow_add_eq_or_of_lt (Nat.lt_trans hoff (by decide))]
    simp
  rw [hor]
  omega

theorem Hdma.Ok.next {d : Hdma} (h : d.Ok) : d.next.Ok := by
  unfold Hdma.next
  dsimp only
  split
  · exact ⟨hdmaDst_wrap_mem_vram _, Nat.succ_pos _⟩
  · exact ⟨hdmaDst_wrap_mem_vram _, Nat.lt_of_le_of_ne h.byte ‹_›⟩

theorem Timer.Ok.edge {t t' : Timer} (h : t'.Ok) : (t.edge t').Ok := by
  unfold Timer.edge Timer.increment
  split
  · split
    · exact Nat.le_refl _
    · exact h
  · exact h

theorem Timer.Ok.latch {t : Timer} (h : t.Ok) : t.latch.1.Ok := by
  unfold Timer.latch
  split
  · exact h
  · split
    · exact Nat.zero_le _
    · exact (Nat.sub_le ..).trans h

theorem Timer.Ok.tick {t : Timer} (h : t.Ok) : t.tick.1.Ok := Timer.Ok.edge h.latch

theorem ioWriteReg_engineUnitsOk {s : State} (r : IoReg) (v : Byte) (h : s.EngineUnitsOk) :
    (ioWriteReg s r v).EngineUnitsOk := by
  have htimer : s.timer.Ok := h.timer
  cases r with
  | div => exact { h with timer := Timer.Ok.edge htimer }
  | tima | tma => exact { h with timer := htimer }
  | tac => exact { h with timer := Timer.Ok.edge htimer }
  | dma => exact { h with dma := OamDma.ok_start v }
  | hdma1 | hdma2 => exact { h with hdma := { h.hdma with } }
  | hdma3 => exact { h with hdma := h.hdma.writeDstHi v }
  | hdma4 => exact { h with hdma := h.hdma.writeDstLo v }
  | hdma5 => exact { h with hdma := h.hdma.control v }
  | _ => exact { h with }

theorem tickFast_engineUnitsOk (k : Nat) (s : State) (h : s.EngineUnitsOk) : (tickFast k s).EngineUnitsOk where
  dma := tickFast_dma_ok k h.dma
  hdma := by rw [tickFast_hdma]; exact h.hdma
  timer := by
    have htick : s.timer.tick.1.Ok := h.timer.tick
    unfold tickFast
    dsimp only
    split <;> exact htick

theorem tickSlow_engineUnitsOk (s : State) (h : s.EngineUnitsOk) : (tickSlow s).EngineUnitsOk where
  dma := h.dma
  hdma := by
    dsimp only [tickSlow]
    split
    · exact { h.hdma with }
    · exact h.hdma
  timer := h.timer

theorem keeps_engineUnitsOk : Keeps State.EngineUnitsOk where
  cpu _ _ h := { h with }
  write _ a v h := busWrite_keeps a v (fun _ e => ⟨e.dma ▸ h.dma, e.hdma ▸ h.hdma, e.timer ▸ h.timer⟩)
    (fun r _ => ioWriteReg_engineUnitsOk r v h)
  time := advanceM_keeps tickFast_engineUnitsOk tickSlow_engineUnitsOk
  hdma _ _ h := { h with hdma := h.hdma.next }
  ack _ _ h := { h with }
  divReset _ h := { h with timer := Timer.Ok.edge h.timer }
  speed _ _ h := { h with }

theorem step_keeps_enginesOk {s t : State} (h : s.EnginesOk) (hstep : step s = .next t) : t.EnginesOk :=
  t.enginesOk_iff.mpr (keeps_engineUnitsOk.step_next (s.enginesOk_iff.mp h) hstep)

/-- Settles O60: each of the four invariants is kept by every primitive of a step. -/
theorem stepKeepsDeviceInvariants : Obligations.StepKeepsDeviceInvariants :=
  ⟨fun _ _ => step_keeps_apuOk, fun _ _ => step_keeps_samplerOk, fun _ _ => step_keeps_monoOk,
   fun _ _ => step_keeps_enginesOk⟩

end Sys2Proof.Machine
end

section
/-! SUPPORT. Which instructions write `sp` and the CPU's control flags (10_state.md R22, R26): what the operations leave
alone, then one case per family. Settles `Obligations.ControlStateWriters`. -/
namespace Sys2Proof

/-- The instructions that change `sp` (10_state.md R22). -/
def Instr.writesSp : Instr → Bool
  | .ld_SP_nn _ | .ld_SP_HL | .inc_SP | .dec_SP | .add_SP_e _
  | .push_BC | .push_DE | .push_HL | .push_AF | .pop_BC | .pop_DE | .pop_HL | .pop_AF
  | .call_nn _ | .call_NZ_nn _ | .call_Z_nn _ | .call_NC_nn _ | .call_C_nn _
  | .ret | .reti | .ret_NZ | .ret_Z | .ret_NC | .ret_C
  | .rst_00 | .rst_08 | .rst_10 | .rst_18 | .rst_20 | .rst_28 | .rst_30 | .rst_38 => true
  | _ => false

/-! ### The opcodes of `sp` -/

theorem decodePrefixed_writesSp (op2 : Byte) : (decodePrefixed op2).writesSp = false := by
  revert op2; decide

/-- Whether an instruction writes `sp` is a matter of its opcode, not of the bytes after it. -/
theorem decodeInstr_writesSp_eq (op n1 n2 : Byte) :
    (decodeInstr op n1 n2).writesSp = (decodeInstr op 0#8 0#8).writesSp := by
  have hx0 : ∀ y z n nn, (decodeX0 y z n nn).writesSp = (decodeX0 y z 0#8 0#16).writesSp := by
    intro y z n nn; cases z <;> cases y <;> rfl
  have hx3 : ∀ y z n nn, (decodeX3 y z n nn).writesSp = (decodeX3 y z 0#8 0#16).writesSp := by
    intro y z n nn
    have hcb := decodePrefixed_writesSp n
    cases z <;> cases y <;> first | exact hcb | rfl
  unfold decodeInstr
  split
  · exact hx0 ..
  · rfl
  · rfl
  · exact hx3 ..

theorem decodeInstr_writesSp (op n1 n2 : Byte) :
    (decodeInstr op n1 n2).writesSp = decide (op.toNat ∈ Machine.spWriters) := by
  rw [decodeInstr_writesSp_eq]
  revert op; decide

namespace Machine

/-! ### Frames -/

/-- The control flags of R26. -/
def Cpu.control (c : Cpu) : Bool × Bool × Bool × Bool × Bool := (c.ime, c.imePending, c.halt, c.stop, c.illegal)

/-- What an instruction may change of `sp` and the control flags. -/
structure ControlFrame (i : Instr) (c d : Cpu) : Prop where
  sp : i.writesSp = false → d.sp = c.sp
  ime : i ≠ .di → i ≠ .reti → d.ime = c.ime
  imePending : i ≠ .di → i ≠ .ei → d.imePending = c.imePending
  halt : i ≠ .halt → d.halt = c.halt
  stop : (∀ pad, i ≠ .stop pad) → d.stop = c.stop
  illegal : i.isIllegal = false → d.illegal = c.illegal

namespace ControlFrame

variable {i : Instr} {c d : Cpu}

/-- An instruction that leaves the control flags alone, and `sp` unless it is one of its writers. -/
theorem of_control (hsp : i.writesSp = false → d.sp = c.sp) (h : d.control = c.control) : ControlFrame i c d := by
  simp only [Cpu.control, Prod.mk.injEq] at h
  obtain ⟨hime, hpending, hhalt, hstop, hillegal⟩ := h
  exact ⟨hsp, fun _ _ => hime, fun _ _ => hpending, fun _ => hhalt, fun _ => hstop, fun _ => hillegal⟩

/-- A writer of `sp` that leaves the control flags alone. -/
theorem of_writesSp (hi : i.writesSp = true) (h : d.control = c.control) : ControlFrame i c d :=
  of_control (fun e => by rw [hi] at e; cases e) h

/-- Nothing of the CPU changes. -/
theorem refl (i : Instr) (c : Cpu) : ControlFrame i c c := of_control (fun _ => rfl) rfl

end ControlFrame

/-- The instruction answers a next state and changes no more of `sp` and the control flags than its own part. -/
def Framed (i : Instr) : Prop := ∀ s, ∃ t, exec i s = .next t ∧ ControlFrame i s.cpu t.cpu

/-! ### The operations -/

/-- `sp` and the control flags are the same in both states. -/
def SameSpControl (s t : State) : Prop := t.cpu.sp = s.cpu.sp ∧ t.cpu.control = s.cpu.control

theorem SameSpControl.frame {s t : State} (i : Instr) (h : SameSpControl s t) : ControlFrame i s.cpu t.cpu :=
  .of_control (fun _ => h.1) h.2

theorem SameSpControl.of_cpu {s t : State} (h : t.cpu = s.cpu) : SameSpControl s t := by
  unfold SameSpControl; rw [h]; exact ⟨rfl, rfl⟩

theorem SameSpControl.refl (s : State) : SameSpControl s s := ⟨rfl, rfl⟩

theorem SameSpControl.setF {s t : State} (f : Flags) (h : SameSpControl s t) : SameSpControl s (t.setF f) := h

theorem SameSpControl.setHl {s t : State} (v : Word) (h : SameSpControl s t) : SameSpControl s (t.setHl v) := h

theorem SameSpControl.set8 {s t : State} (r : R8) (v : Byte) (h : SameSpControl s t) : SameSpControl s (t.set8 r v) := by
  cases r <;> exact h

theorem SameSpControl.opAlu {s t : State} (op : AluOp) (v : Byte) (h : SameSpControl s t) :
    SameSpControl s (opAlu op v t) := h

theorem sameSpControl_memRead (s : State) (a : Word) : SameSpControl s (memRead s a).2 := .of_cpu (memRead_cpu s a)

theorem sameSpControl_memWrite (s : State) (a : Word) (v : Byte) : SameSpControl s (memWrite s a v) :=
  .of_cpu (memWrite_cpu s a v)

theorem SameSpControl.idleM {s t : State} (h : SameSpControl s t) : SameSpControl s (idleM t) := by
  unfold SameSpControl; rw [idleM_cpu]; exact h

theorem sameSpControl_modifyHL (s : State) (v : Byte) : SameSpControl s (writeHL (readHL s).2 v) :=
  .of_cpu ((memWrite_cpu ..).trans (memRead_cpu ..))

theorem sameSpControl_opJump (nn : Word) (s : State) : SameSpControl s (opJump nn s) :=
  SameSpControl.idleM (t := s.setPc nn) ⟨rfl, rfl⟩

theorem sameSpControl_opIf {s : State} (cc : Cond) {op : State → State} (h : SameSpControl s (op s)) :
    SameSpControl s (opIf cc op s) := by
  unfold opIf
  split
  · exact h
  · exact .refl s

theorem push16_control (s : State) (v : Word) : (push16 s v).cpu.control = s.cpu.control := by rw [push16_cpu]; rfl

theorem pop16_control (s : State) : (pop16 s).2.cpu.control = s.cpu.control := by rw [pop16_cpu]; rfl

theorem setPc_control (s : State) (v : Word) : (s.setPc v).cpu.control = s.cpu.control := rfl

theorem opCall_control (nn : Word) (s : State) : (opCall nn s).cpu.control = s.cpu.control := by
  rw [opCall, setPc_control, push16_control, idleM_cpu]

theorem opRet_control (s : State) : (opRet s).cpu.control = s.cpu.control := by
  rw [opRet, idleM_cpu, setPc_control, pop16_control]

theorem setStk_control (s : State) (rr : R16Stk) (v : Word) : (s.setStk rr v).cpu.control = s.cpu.control := by
  cases rr <;> rfl

/-- A register pair written: `sp` only by the pair SP. -/
theorem controlFrame_set16 {i : Instr} (rr : R16) (v : Word) (s : State) (hi : rr = .SP → i.writesSp = true) :
    ControlFrame i s.cpu (s.set16 rr v).cpu := by
  cases rr with
  | SP => exact .of_writesSp (hi rfl) rfl
  | _ => exact .of_control (fun _ => rfl) rfl

/-- `STOP` sets the stop flag or switches the speed (46_system_control.md R342). -/
theorem controlFrame_opStop (pad : Byte) (s : State) : ControlFrame (.stop pad) s.cpu (opStop s).cpu := by
  unfold opStop
  split
  · exact .refl ..
  · exact ⟨fun _ => rfl, fun _ _ => rfl, fun _ _ => rfl, fun _ => rfl, fun h => absurd rfl (h pad), fun _ => rfl⟩

/-- `RETI` sets `ime` (46_system_control.md R330). -/
theorem controlFrame_reti (s : State) : ControlFrame .reti s.cpu (returnFromInterrupt s).cpu := by
  have hret := opRet_control s
  simp only [Cpu.control, Prod.mk.injEq] at hret
  obtain ⟨-, hpending, hhalt, hstop, hillegal⟩ := hret
  exact ⟨fun e => Bool.noConfusion e, fun _ h => absurd rfl h, fun _ _ => hpending, fun _ => hhalt, fun _ => hstop,
    fun _ => hillegal⟩

/-! ### The families -/

/-- An instruction that leaves `sp` and the control flags alone. -/
theorem framed_of_same {i : Instr} {op : State → State} (he : ∀ s, exec i s = .next (op s))
    (h : ∀ s, SameSpControl s (op s)) : Framed i := fun s => ⟨_, he s, (h s).frame i⟩

theorem framed_ldRRnn (rr : R16) (nn : Word) : Framed (Instr.ldRRnn rr nn) := fun s =>
  ⟨_, exec_ldRRnn rr nn s, controlFrame_set16 rr nn s (by rintro rfl; rfl)⟩
theorem framed_pushRR (rr : R16Stk) : Framed (Instr.pushRR rr) := fun s =>
  ⟨_, exec_pushRR rr s, .of_writesSp (by cases rr <;> rfl) (by rw [opPush, push16_control, idleM_cpu])⟩
theorem framed_popRR (rr : R16Stk) : Framed (Instr.popRR rr) := fun s =>
  ⟨_, exec_popRR rr s, .of_writesSp (by cases rr <;> rfl) (by rw [opPop, setStk_control, pop16_control])⟩
theorem framed_incRR (rr : R16) : Framed (Instr.incRR rr) := fun s =>
  ⟨_, exec_incRR rr s, by rw [idleM_cpu]; exact controlFrame_set16 rr _ s (by rintro rfl; rfl)⟩
theorem framed_decRR (rr : R16) : Framed (Instr.decRR rr) := fun s =>
  ⟨_, exec_decRR rr s, by rw [idleM_cpu]; exact controlFrame_set16 rr _ s (by rintro rfl; rfl)⟩
theorem framed_callCC (cc : Cond) (nn : Word) : Framed (Instr.callCC cc nn) := fun s =>
  ⟨_, exec_callCC cc nn s, .of_writesSp (by cases cc <;> rfl) (by
    unfold opIf
    split
    · exact opCall_control nn s
    · rfl)⟩
theorem framed_retCC (cc : Cond) : Framed (Instr.retCC cc) := fun s =>
  ⟨_, exec_retCC cc s, .of_writesSp (by cases cc <;> rfl) (by
    have hidle : (idleM s).cpu.control = s.cpu.control := congrArg Cpu.control (idleM_cpu s)
    unfold opIf
    split
    · exact (opRet_control _).trans hidle
    · exact hidle)⟩
theorem framed_illegal (i : Instr) (hi : i.isIllegal = true) : Framed i := fun s =>
  ⟨_, exec_illegal i hi s,
    ⟨fun _ => rfl, fun _ _ => rfl, fun _ _ => rfl, fun _ => rfl, fun _ => rfl, fun h => by rw [hi] at h; cases h⟩⟩

/-- Every whole instruction answers a next state within its frame. -/
theorem exec_framed (i : Instr) : i.wellFormed = true → Framed i :=
  Instr.byFamily (P := fun i => i.wellFormed = true → Framed i)
    (ldRR := fun d r _ => framed_of_same (exec_ldRR d r) fun s => (SameSpControl.refl s).set8 d _)
    (ldRN := fun r n _ => framed_of_same (exec_ldRN r n) fun s => (SameSpControl.refl s).set8 r _)
    (ldRM := fun r _ => framed_of_same (exec_ldRM r) fun s => (sameSpControl_memRead s _).set8 r _)
    (ldMR := fun r _ => framed_of_same (exec_ldMR r) fun s => sameSpControl_memWrite s _ _)
    (ldRRnn := fun rr nn _ => framed_ldRRnn rr nn)
    (pushRR := fun rr _ => framed_pushRR rr)
    (popRR := fun rr _ => framed_popRR rr)
    (aluR := fun op r _ => framed_of_same (exec_aluR op r) fun s => (SameSpControl.refl s).opAlu op _)
    (aluM := fun op _ => framed_of_same (exec_aluM op) fun s => (sameSpControl_memRead s _).opAlu op _)
    (aluN := fun op n _ => framed_of_same (exec_aluN op n) fun s => (SameSpControl.refl s).opAlu op _)
    (incR := fun r _ => framed_of_same (exec_incR r) fun s => ((SameSpControl.refl s).set8 r _).setF _)
    (decR := fun r _ => framed_of_same (exec_decR r) fun s => ((SameSpControl.refl s).set8 r _).setF _)
    (addHLRR := fun rr _ => framed_of_same (exec_addHLRR rr) fun s => (((SameSpControl.refl s).setHl _).setF _).idleM)
    (incRR := fun rr _ => framed_incRR rr)
    (decRR := fun rr _ => framed_decRR rr)
    (rotR := fun op r _ => framed_of_same (exec_rotR op r) fun s => ((SameSpControl.refl s).set8 r _).setF _)
    (rotM := fun op _ => framed_of_same (exec_rotM op) fun s => sameSpControl_modifyHL s _)
    (bitR := fun b r _ => framed_of_same (exec_bitR b r) fun s => .refl s)
    (bitM := fun b _ => framed_of_same (exec_bitM b) fun s => sameSpControl_memRead s _)
    (resR := fun b r _ => framed_of_same (exec_resR b r) fun s => (SameSpControl.refl s).set8 r _)
    (resM := fun b _ => framed_of_same (exec_resM b) fun s => sameSpControl_modifyHL s _)
    (setR := fun b r _ => framed_of_same (exec_setR b r) fun s => (SameSpControl.refl s).set8 r _)
    (setM := fun b _ => framed_of_same (exec_setM b) fun s => sameSpControl_modifyHL s _)
    (jpCC := fun cc nn _ => framed_of_same (exec_jpCC cc nn) fun s => sameSpControl_opIf cc (sameSpControl_opJump nn s))
    (jrCC := fun cc e _ => framed_of_same (exec_jrCC cc e) fun s => sameSpControl_opIf cc (sameSpControl_opJump _ s))
    (callCC := fun cc nn _ => framed_callCC cc nn)
    (retCC := fun cc _ => framed_retCC cc)
    (rst := fun y _ s => ⟨_, exec_rst y s, .of_writesSp (by cases y <;> rfl) (opCall_control _ s)⟩)
    (nop := fun _ => framed_of_same exec_nop fun s => .refl s)
    (ld_mBC_A := fun _ => framed_of_same exec_ld_mBC_A fun s => sameSpControl_memWrite s _ _)
    (rlca := fun _ => framed_of_same exec_rlca fun s => .refl s)
    (ld_mnn_SP := fun nn _ => framed_of_same (exec_ld_mnn_SP nn) fun s =>
      .of_cpu ((memWrite_cpu ..).trans (memWrite_cpu s ..)))
    (ld_A_mBC := fun _ => framed_of_same exec_ld_A_mBC fun s => sameSpControl_memRead s _)
    (rrca := fun _ => framed_of_same exec_rrca fun s => .refl s)
    (stop := fun pad _ s => ⟨_, exec_stop pad s, controlFrame_opStop pad s⟩)
    (ld_mDE_A := fun _ => framed_of_same exec_ld_mDE_A fun s => sameSpControl_memWrite s _ _)
    (rla := fun _ => framed_of_same exec_rla fun s => .refl s)
    (jr_e := fun e _ => framed_of_same (exec_jr_e e) fun s => sameSpControl_opJump _ s)
    (ld_A_mDE := fun _ => framed_of_same exec_ld_A_mDE fun s => sameSpControl_memRead s _)
    (rra := fun _ => framed_of_same exec_rra fun s => .refl s)
    (ld_mHLinc_A := fun _ => framed_of_same exec_ld_mHLinc_A fun s => sameSpControl_memWrite s _ _)
    (daa := fun _ => framed_of_same exec_daa fun s => .refl s)
    (ld_A_mHLinc := fun _ => framed_of_same exec_ld_A_mHLinc fun s => sameSpControl_memRead s _)
    (cpl := fun _ => framed_of_same exec_cpl fun s => .refl s)
    (ld_mHLdec_A := fun _ => framed_of_same exec_ld_mHLdec_A fun s => sameSpControl_memWrite s _ _)
    (inc_mHL := fun _ => framed_of_same exec_inc_mHL fun s => sameSpControl_modifyHL s _)
    (dec_mHL := fun _ => framed_of_same exec_dec_mHL fun s => sameSpControl_modifyHL s _)
    (ld_mHL_n := fun n _ => framed_of_same (exec_ld_mHL_n n) fun s => sameSpControl_memWrite s _ _)
    (scf := fun _ => framed_of_same exec_scf fun s => .refl s)
    (ld_A_mHLdec := fun _ => framed_of_same exec_ld_A_mHLdec fun s => sameSpControl_memRead s _)
    (ccf := fun _ => framed_of_same exec_ccf fun s => .refl s)
    (halt := fun _ s => ⟨_, exec_halt s, fun _ => rfl, fun _ _ => rfl, fun _ _ => rfl, fun h => absurd rfl h,
      fun _ => rfl, fun _ => rfl⟩)
    (jp_nn := fun nn _ => framed_of_same (exec_jp_nn nn) fun s => sameSpControl_opJump nn s)
    (ret := fun _ s => ⟨_, exec_ret s, .of_writesSp rfl (opRet_control s)⟩)
    (prefixCB := fun w => absurd w (by decide))
    (call_nn := fun nn _ s => ⟨_, exec_call_nn nn s, .of_writesSp rfl (opCall_control nn s)⟩)
    (reti := fun _ s => ⟨_, exec_reti s, controlFrame_reti s⟩)
    (ldh_mn_A := fun n _ => framed_of_same (exec_ldh_mn_A n) fun s => sameSpControl_memWrite s _ _)
    (ldh_mC_A := fun _ => framed_of_same exec_ldh_mC_A fun s => sameSpControl_memWrite s _ _)
    (add_SP_e := fun e _ s => ⟨_, exec_add_SP_e e s, .of_writesSp rfl (by simp only [opAddSpE, idleM_cpu]; rfl)⟩)
    (jp_HL := fun _ => framed_of_same exec_jp_HL fun s => .refl s)
    (ld_mnn_A := fun nn _ => framed_of_same (exec_ld_mnn_A nn) fun s => sameSpControl_memWrite s _ _)
    (ldh_A_mn := fun n _ => framed_of_same (exec_ldh_A_mn n) fun s => sameSpControl_memRead s _)
    (ldh_A_mC := fun _ => framed_of_same exec_ldh_A_mC fun s => sameSpControl_memRead s _)
    (di := fun _ s => ⟨_, exec_di s, fun _ => rfl, fun h => absurd rfl h, fun h => absurd rfl h, fun _ => rfl,
      fun _ => rfl, fun _ => rfl⟩)
    (ld_HL_SPe := fun e _ => framed_of_same (exec_ld_HL_SPe e) fun s => (((SameSpControl.refl s).setHl _).setF _).idleM)
    (ld_SP_HL := fun _ s => ⟨_, exec_ld_SP_HL s, .of_writesSp rfl (by rw [idleM_cpu]; rfl)⟩)
    (ld_A_mnn := fun nn _ => framed_of_same (exec_ld_A_mnn nn) fun s => sameSpControl_memRead s _)
    (ei := fun _ s => ⟨_, exec_ei s, fun _ => rfl, fun _ _ => rfl, fun _ h => absurd rfl h, fun _ => rfl,
      fun _ => rfl, fun _ => rfl⟩)
    (illegal := fun i hi _ => framed_illegal i hi) i

/-- The same, for the state that an instruction answers. -/
theorem exec_controlFrame {i : Instr} {s t : State} (w : i.wellFormed = true) (h : exec i s = .next t) :
    ControlFrame i s.cpu t.cpu := by
  obtain ⟨u, hu, hframe⟩ := exec_framed i w s
  rw [hu] at h; cases h; exact hframe

/-- Settles O34: every instruction stays within its frame, and the opcode tells the writers of `sp`. -/
theorem controlStateWriters : Obligations.ControlStateWriters := by
  intro op n1 n2 s t i h
  have hframe := exec_controlFrame (decodeInstr_wellFormed op n1 n2) h
  refine ⟨fun hop => hframe.sp ?_, hframe.ime, hframe.imePending, hframe.halt, hframe.stop, hframe.illegal⟩
  rw [decodeInstr_writesSp, decide_eq_false hop]

end Machine

end Sys2Proof
end

section
/-! SUPPORT. The PPU in the picture of the scanline (63_ppu.md R510 to R512, R530, R536), kept by every dot and every
register write, and the exclusion of halt and stop (10_state.md R27), kept by every step. Settles
`Obligations.StepKeepsCpuAndPpuInvariant`. -/
namespace Sys2Proof.Machine

open Sys2Proof.Config

/-! ### The PPU by what its invariant reads -/

/-- The part of the PPU that `Ppu.Ok` reads. -/
structure SamePicture (p q : Ppu) : Prop where
  lcdOn : q.lcdOn = p.lcdOn
  ly : q.ly = p.ly
  lx : q.lx = p.lx
  mode : q.mode = p.mode
  px : q.px = p.px
  spr : q.spr = p.spr

/-- The invariant speaks of the picture alone. -/
theorem Ppu.Ok.congr {p q : Ppu} (h : p.Ok) (e : SamePicture p q) : q.Ok where
  ly := by rw [e.ly]; exact h.ly
  lx := by rw [e.lx]; exact h.lx
  px := by rw [e.px]; exact h.px
  spr := by rw [e.spr]; exact h.spr
  off := by rw [e.lcdOn, e.ly, e.lx, e.mode]; exact h.off
  vblank := by rw [e.lcdOn, e.ly, e.mode]; exact h.vblank
  scan := by rw [e.lcdOn, e.ly, e.lx, e.mode]; exact h.scan

/-! ### OAM scan -/

theorem insertSprite_length (t : Sprite) (us : List Sprite) : (insertSprite t us).length = us.length + 1 := by
  induction us with
  | nil => rfl
  | cons u us ih =>
    unfold insertSprite
    split
    · rfl
    · exact congrArg (· + 1) ih

theorem sortSprites_length (ts : List Sprite) : (sortSprites ts).length = ts.length := by
  induction ts with
  | nil => rfl
  | cons t ts ih => rw [sortSprites, insertSprite_length, ih]; rfl

/-- At most ten sprites of a scanline (R536). -/
theorem oamScan_length_le (oam : Memory) (ly h : Nat) : (oamScan oam ly h).length ≤ 10 := by
  rw [oamScan, sortSprites_length]
  exact List.length_take_le ..

/-! ### One dot -/

/-- The pixel of a dot moves nothing of the picture but `px`, which stops at the end of the line. -/
theorem outPixel_ok {s : State} {p : Ppu} (h : p.Ok) : (p.outPixel s).Ok := by
  unfold Ppu.outPixel
  dsimp only
  split
  · rename_i hpx
    split <;> exact { h with px := hpx }
  · split
    · exact { h with }
    · exact h

theorem pixelStep_ok {s : State} (h : s.ppu.Ok) : (pixelStep s).Ok := by
  unfold pixelStep
  split
  · exact { h with }
  · exact outPixel_ok h

/-- Mode 2 stands at the first dot of a visible line (R521). -/
theorem mode2Entry_ok (oam : Memory) {p : Ppu} (hon : p.lcdOn = true) (hly : p.ly < visibleLines) (hlx : p.lx = 0)
    (hpx : p.px ≤ linePixels) : (p.mode2Entry oam).Ok where
  ly := Nat.lt_trans hly (by decide)
  lx := by show p.lx < lineT; rw [hlx]; decide
  px := hpx
  spr := oamScan_length_le ..
  off := fun hoff => absurd (hon.symm.trans hoff) (by decide)
  vblank := fun _ => ⟨fun e => PpuMode.noConfusion e, fun e => absurd e (Nat.not_le.mpr hly)⟩
  scan := fun _ _ => ⟨fun _ => by show p.lx < mode2T; rw [hlx]; decide, fun _ => rfl⟩

/-- The entry into a scanline: mode 2 on a visible one, mode 1 from line 144 on (R520, R521, R523). -/
theorem lineEntry_ok (oam : Memory) {p : Ppu} (hon : p.lcdOn = true) (hly : p.ly < lines) (hlx : p.lx = 0)
    (hpx : p.px ≤ linePixels) (hspr : p.spr.length ≤ 10) (hmode : visibleLines < p.ly → p.mode = .vblank) :
    (p.lineEntry oam).ppu.Ok := by
  have hlx' : p.lx < lineT := by rw [hlx]; decide
  have hoff : ∀ {Q : Prop}, p.lcdOn = false → Q := fun e => absurd (hon.symm.trans e) (by decide)
  unfold Ppu.lineEntry
  split
  · exact mode2Entry_ok oam hon ‹_› hlx hpx
  · rename_i hvisible
    split
    · exact ⟨hly, hlx', hpx, hspr, hoff, fun _ => ⟨fun _ => Nat.not_lt.mp hvisible, fun _ => rfl⟩,
        fun _ e => absurd e hvisible⟩
    · rename_i hfirst
      have hge := Nat.not_lt.mp hvisible
      exact ⟨hly, hlx', hpx, hspr, hoff,
        fun _ => ⟨fun _ => hge, fun _ => hmode (Nat.lt_of_le_of_ne hge (Ne.symm hfirst))⟩,
        fun _ e => absurd e hvisible⟩

/-- The end of a scanline (R520, R524). -/
theorem nextLine_lineEntry_ok (oam : Memory) {p : Ppu} (hon : p.lcdOn = true) (hly : p.ly < lines)
    (hpx : p.px ≤ linePixels) (hspr : p.spr.length ≤ 10) (hmode : visibleLines ≤ p.ly → p.mode = .vblank) :
    (p.nextLine.lineEntry oam).ppu.Ok := by
  unfold Ppu.nextLine
  split
  · exact lineEntry_ok oam hon (by decide : 0 < lines) rfl hpx hspr (fun e => absurd e (Nat.not_lt_zero _))
  · exact lineEntry_ok oam hon (Nat.lt_of_le_of_ne hly ‹_›) rfl hpx hspr (fun e => hmode (Nat.le_of_lt_succ e))

/-- Mode 3 runs from the end of mode 2 on. -/
theorem Ppu.Ok.mode2T_le_of_transfer {p : Ppu} (h : p.Ok) (hon : p.lcdOn = true) (hm : p.mode = .transfer) :
    p.ly < visibleLines ∧ mode2T ≤ p.lx := by
  have hly : p.ly < visibleLines := by
    rw [← Nat.not_le, ← h.vblank hon, hm]
    decide
  refine ⟨hly, ?_⟩
  rw [← Nat.not_lt, ← h.scan hon hly, hm]
  decide

/-- The transitions of one dot (R520). -/
theorem advance_ok {s : State} {p : Ppu} (hon : p.lcdOn = true) (h : p.Ok) : (p.advance s).ppu.Ok := by
  have hoff : ∀ {Q : Prop}, p.lcdOn = false → Q := fun e => absurd (hon.symm.trans e) (by decide)
  unfold Ppu.advance
  dsimp only
  split
  case isTrue =>
    exact nextLine_lineEntry_ok s.oam (p := { p with lx := p.lx + 1 }) hon h.ly h.px h.spr (h.vblank hon).mpr
  case isFalse hend =>
    have hlx : p.lx + 1 < lineT := Nat.lt_of_le_of_ne h.lx hend
    split
    case isTrue hscan =>
      obtain ⟨hscanEnd, hly⟩ := hscan
      exact ⟨h.ly, hlx, Nat.zero_le _, h.spr, hoff,
        fun _ => ⟨fun e => PpuMode.noConfusion e, fun e => absurd e (Nat.not_le.mpr hly)⟩,
        fun _ _ => ⟨fun e => PpuMode.noConfusion e, fun e => absurd hscanEnd (Nat.ne_of_lt e)⟩⟩
    case isFalse hscan =>
      split
      case isTrue hdone =>
        obtain ⟨hly, hge⟩ := h.mode2T_le_of_transfer hon hdone.1
        exact ⟨h.ly, hlx, h.px, h.spr, hoff,
          fun _ => ⟨fun e => PpuMode.noConfusion e, fun e => absurd e (Nat.not_le.mpr hly)⟩,
          fun _ _ => ⟨fun e => PpuMode.noConfusion e, fun e => absurd (Nat.le_succ_of_le hge) (Nat.not_le.mpr e)⟩⟩
      case isFalse =>
        refine ⟨h.ly, hlx, h.px, h.spr, hoff, h.vblank, fun _ hly => ?_⟩
        have hne : p.lx + 1 ≠ mode2T := fun e => hscan ⟨e, hly⟩
        have hstep : p.lx < mode2T ↔ p.lx + 1 < mode2T :=
          ⟨fun e => Nat.lt_of_le_of_ne e hne, Nat.lt_of_succ_lt⟩
        exact (h.scan hon hly).trans hstep

theorem pixelStep_lcdc (s : State) : (pixelStep s).lcdc = s.ppu.lcdc := by
  unfold pixelStep Ppu.outPixel
  dsimp only
  split
  · rfl
  · split <;> split <;> rfl

theorem ppuTick_ok {s : State} (h : s.ppu.Ok) : (ppuTick s).ppu.Ok := by
  unfold ppuTick
  split
  · rename_i hon
    split
    · exact advance_ok (by rw [Ppu.lcdOn, pixelStep_lcdc]; exact hon) (pixelStep_ok h)
    · exact advance_ok hon h
  · exact h

/-! ### Register writes -/

/-- A write of LCDC switches the LCD off or on, or leaves the picture alone (R513, R528, R529). -/
theorem writeLcdc_ok (oam : Memory) {p : Ppu} (v : Byte) (h : p.Ok) : (p.writeLcdc oam v).Ok := by
  unfold Ppu.writeLcdc
  dsimp only
  split
  case isTrue hswitch =>
    have hv : bit v 7 = false := by simpa using (Bool.and_eq_true_iff.mp hswitch).2
    have hoff : ∀ {Q : Prop}, bit v 7 = true → Q := fun e => absurd (hv.symm.trans e) (by decide)
    exact ⟨(by decide : 0 < lines), (by decide : 0 < lineT), h.px, h.spr, fun _ => ⟨rfl, rfl, rfl⟩, hoff, hoff⟩
  case isFalse hkeep =>
    split
    case isTrue hswitch =>
      exact mode2Entry_ok oam (Bool.and_eq_true_iff.mp hswitch).2 (by decide : 0 < visibleLines) rfl (Nat.zero_le _)
    case isFalse hkeep' =>
      have hbit : bit v 7 = bit p.lcdc 7 := by
        cases hv : bit v 7 <;> cases hp : bit p.lcdc 7 <;> simp_all
      exact h.congr ⟨hbit, rfl, rfl, rfl, rfl, rfl⟩

theorem ioWriteReg_ppu_ok {s : State} (r : IoReg) (v : Byte) (h : s.ppu.Ok) : (ioWriteReg s r v).ppu.Ok := by
  cases r with
  | lcdc => exact writeLcdc_ok s.oam v h
  | _ => exact { h with }

theorem keeps_ppu_ok : Keeps (fun s => s.ppu.Ok) where
  cpu _ _ h := h
  write _ a v h := busWrite_keeps a v (fun _ e => e.ppu ▸ h) (fun r _ => ioWriteReg_ppu_ok r v h)
  time := advanceM_keeps (fun k t h => (tickFast_ppu k t) ▸ h) (fun _ h => ppuTick_ok h)
  hdma _ _ h := h
  ack _ _ h := h
  divReset _ h := h
  speed _ _ h := h

/-! ### Halt and stop -/

theorem haltStopExclusive_of_eq {s t : State} (h : s.HaltStopExclusive) (hhalt : t.cpu.halt = s.cpu.halt)
    (hstop : t.cpu.stop = s.cpu.stop) : t.HaltStopExclusive := by
  unfold State.HaltStopExclusive
  rw [hhalt, hstop]; exact h

/-- Waking clears the two flags or leaves them (60_exceptions.md R413, R415). -/
theorem wake_haltStopExclusive {s : State} (h : s.HaltStopExclusive) :
    (wakeStop (wakeHalt s)).HaltStopExclusive := by
  rintro ⟨hhalt, hstop⟩
  exact h ⟨(Bool.and_eq_true_iff.mp hhalt).1, (Bool.and_eq_true_iff.mp hstop).1⟩

theorem hdmaStepM_cpu (s : State) : (hdmaStepM s).cpu = s.cpu := by
  rw [hdmaStepM, advanceM_cpu]; split <;> rfl

theorem chooseVector_halt_stop (s : State) :
    (chooseVector s).cpu.halt = s.cpu.halt ∧ (chooseVector s).cpu.stop = s.cpu.stop := by
  unfold chooseVector; split <;> exact ⟨rfl, rfl⟩

theorem dispatch_halt_stop (s : State) :
    (dispatch s).cpu.halt = s.cpu.halt ∧ (dispatch s).cpu.stop = s.cpu.stop := by
  simp [dispatch, chooseVector_halt_stop]

theorem fetchInstr_halt_stop (s : State) :
    (fetchInstr s).2.cpu.halt = s.cpu.halt ∧ (fetchInstr s).2.cpu.stop = s.cpu.stop := by
  unfold fetchInstr
  dsimp only
  split <;> simp

theorem delayedEnable_halt_stop (p : Bool) (s : State) :
    (delayedEnable p s).cpu.halt = s.cpu.halt ∧ (delayedEnable p s).cpu.stop = s.cpu.stop := by
  unfold delayedEnable; split <;> exact ⟨rfl, rfl⟩

/-- No instruction sets both flags: HALT alone sets the one, STOP alone the other. -/
theorem exec_haltStopExclusive {i : Instr} {s t : State} (w : i.wellFormed = true)
    (hrun : s.cpu.halt = false ∧ s.cpu.stop = false) (h : exec i s = .next t) : t.HaltStopExclusive := by
  obtain ⟨hhalt, hstop⟩ := hrun
  have hframe := exec_controlFrame w h
  rintro ⟨hhalt', hstop'⟩
  by_cases hi : i = .halt
  · have hkept := hframe.stop (by rintro pad rfl; cases hi)
    rw [hkept, hstop] at hstop'; cases hstop'
  · have hkept := hframe.halt hi
    rw [hkept, hhalt] at hhalt'; cases hhalt'

theorem step_keeps_haltStopExclusive {s t : State} (h : s.HaltStopExclusive) (hstep : step s = .next t) :
    t.HaltStopExclusive := by
  have hwake := wake_haltStopExclusive h
  obtain ⟨-, rfl⟩ | ⟨-, -, rfl⟩ | ⟨-, -, ⟨-, rfl⟩ | ⟨-, -, rfl⟩ | ⟨-, hrun, u, hexec, rfl⟩⟩ := step_cases hstep
  · exact h
  · exact haltStopExclusive_of_eq h (by rw [hdmaStepM_cpu]) (by rw [hdmaStepM_cpu])
  · exact haltStopExclusive_of_eq hwake (dispatch_halt_stop _).1 (dispatch_halt_stop _).2
  · exact haltStopExclusive_of_eq hwake (by rw [idleM_cpu]) (by rw [idleM_cpu])
  · obtain ⟨hfetchHalt, hfetchStop⟩ := fetchInstr_halt_stop (wakeStop (wakeHalt s))
    obtain ⟨hhalt, hstop⟩ := Bool.or_eq_false_iff.mp hrun
    have hu := exec_haltStopExclusive (fetchInstr_wellFormed _) ⟨hfetchHalt.trans hhalt, hfetchStop.trans hstop⟩ hexec
    exact haltStopExclusive_of_eq hu (delayedEnable_halt_stop _ u).1 (delayedEnable_halt_stop _ u).2

/-- Settles O59: the exclusion by the cases of a step, the PPU's picture by what every primitive keeps. -/
theorem stepKeepsCpuAndPpuInvariant : Obligations.StepKeepsCpuAndPpuInvariant :=
  fun _ _ hcpu hppu hstep => ⟨step_keeps_haltStopExclusive hcpu hstep, keeps_ppu_ok.step_next hppu hstep⟩

end Sys2Proof.Machine
end

section
/-! SUPPORT. PUSH and POP, and the hard-wired low bits of F (10_state.md R24, R25; 41_load16_stack.md R235 to R240). Settles
`Obligations.PushAndPop`. -/
namespace Sys2Proof

theorem pair_and_pair (a b c d : Byte) : pair a b &&& pair c d = pair (a &&& c) (b &&& d) := BitVec.and_append

/-- The mask of R240 acts on the low byte alone. -/
theorem and_clear_low_nibble (v : Word) : v &&& 0xFFF0#16 = pair (hiByte v) (loByte v &&& 0xF0#8) := by
  calc v &&& 0xFFF0#16
      = pair (hiByte v) (loByte v) &&& pair 0xFF#8 0xF0#8 := by rw [pair_hi_lo]; rfl
    _ = pair (hiByte v) (loByte v &&& 0xF0#8) := by
        rw [pair_and_pair, show (0xFF#8) = BitVec.allOnes 8 from rfl, BitVec.and_allOnes]

namespace Machine

theorem Flags.toByte_low_nibble (f : Flags) : f.toByte &&& 0x0F#8 = 0x00#8 := by
  obtain ⟨z, n, h, c⟩ := f
  revert z n h c; decide

theorem bit_loByte (v : Word) {i : Nat} (h : i < 8) : bit (loByte v) i = v.getLsbD i := by
  rw [bit, loByte, BitVec.getLsbD_extractLsb', Nat.zero_add, decide_eq_true h, Bool.true_and]

/-- A pair written reads back, for AF without the bits that have no storage (R240). -/
theorem Cpu.getStk_setStk (rr : R16Stk) (c : Cpu) (v : Word) :
    (c.setStk rr v).getStk rr = if rr = .AF then v &&& 0xFFF0#16 else v := by
  cases rr with
  | BC => exact Cpu.setStk_bc c v
  | DE => exact Cpu.setStk_de c v
  | HL => exact Cpu.setStk_hl c v
  | AF => exact (congrArg (pair (hiByte v)) (Flags.toByte_ofByte (loByte v))).trans (and_clear_low_nibble v).symm

/-- Bits 3:0 of AF always read 0 (R25). -/
theorem Cpu.af_low_nibble (c : Cpu) : c.af &&& 0x000F#16 = 0x0000#16 := by
  calc c.af &&& 0x000F#16
      = pair (c.a &&& 0x00#8) (c.f.toByte &&& 0x0F#8) := pair_and_pair c.a c.f.toByte 0x00#8 0x0F#8
    _ = 0x0000#16 := by rw [Flags.toByte_low_nibble, BitVec.and_zero]; rfl

theorem opPush_eq (rr : R16Stk) (s : State) : opPush rr s =
    (memWrite (memWrite (advanceM s) (s.cpu.sp - 1#16) (hiByte (s.cpu.getStk rr))) (s.cpu.sp - 2#16)
      (loByte (s.cpu.getStk rr))).setSp (s.cpu.sp - 2#16) := by
  rw [opPush, push16_eq, idleM, advanceM_cpu]

theorem opPop_eq (rr : R16Stk) (s : State) : opPop rr s =
    ((passM 2 s).setSp (s.cpu.sp + 2#16)).setStk rr
      (pair (busRead (advanceM s) (s.cpu.sp + 1#16)) (busRead s s.cpu.sp)) := by
  rw [opPop, pop16_eq]

/-- Settles O17: `Push16` and `Pop16` in closed form, and what a pair written reads back as. -/
theorem pushAndPop : Obligations.PushAndPop := by
  refine ⟨fun rr s => ?_, fun rr s => ?_, Cpu.getStk_setStk, Cpu.af_low_nibble, fun _ v => ?_⟩
  · rw [exec_pushRR, opPush_eq]
  · rw [exec_popRR, opPop_eq]
  · exact ⟨bit_loByte v (by decide), bit_loByte v (by decide), bit_loByte v (by decide), bit_loByte v (by decide)⟩

end Machine

end Sys2Proof
end

section
/-! SUPPORT. The state after reset (10_state.md R21 to R30; 70_reset_and_hazards.md R700, R702): its values, in both modes and
for any cartridge, parameters and inputs, and the invariants, which hold of `State.reset` with the model's choices of log
entries 1, 2 and 3. Settles `Obligations.ResetValues` and `Obligations.ResetMeetsInvariants`. -/
namespace Sys2Proof.Machine

open Sys2Proof.Config

/-! ### The invariants -/

theorem reset_canonical : State.reset.Canonical := by
  constructor <;> exact Store.wf_nil

theorem reset_haltStopExclusive : State.reset.HaltStopExclusive := fun h => Bool.noConfusion h.1

theorem reset_ppu_meets_ok : State.reset.ppu.Ok := by constructor <;> decide

theorem reset_apu_meets_ok : State.reset.apu.Ok := by constructor <;> decide

theorem reset_samplerOk : State.reset.SamplerOk := by constructor <;> decide

theorem reset_monoOk : State.reset.MonoOk := ⟨fun _ => rfl, fun _ => rfl, fun _ => rfl⟩

theorem reset_enginesOk : State.reset.EnginesOk := by constructor <;> decide

/-- Settles O57 (log entries 1, 2, 3). -/
theorem resetMeetsInvariants : Obligations.ResetMeetsInvariants :=
  ⟨reset_canonical, reset_haltStopExclusive, reset_ppu_meets_ok, reset_apu_meets_ok, reset_samplerOk, reset_monoOk,
   reset_enginesOk⟩

/-! ### The values -/

/-- The top page holds the registers, HRAM and IE (20_memory.md R110, R120). -/
theorem regionOf_topPage {a : Word} (h : 0xFF00 ≤ a.toNat) :
    (∃ lo, regionOf a = .io lo) ∨ (∃ off, regionOf a = .hram off) ∨ regionOf a = .ie := by
  have hecho : unEcho a.toNat = a.toNat := if_neg (by omega)
  unfold regionOf
  rw [hecho]
  unfold regionOfPlain
  rw [if_neg (by omega), if_neg (by omega), if_neg (by omega), if_neg (by omega), if_neg (by omega), if_neg (by omega),
    if_neg (by omega)]
  split
  · exact .inl ⟨_, rfl⟩
  · split
    · exact .inr (.inl ⟨_, rfl⟩)
    · exact .inr (.inr rfl)

/-- The reset state for the model's own cartridge, parameters and inputs: closed, so that its registers evaluate. -/
def resetIn (cgb : Bool) : State := State.resetWith cgb Params.default Cart.blank Inputs.reset

/-- No read of the top page reaches the cartridge, the parameters or the input ports. -/
theorem busRead_resetWith_topPage (cgb : Bool) (p : Params) (cart : Cart) (inp : Inputs) {a : Word}
    (h : 0xFF00 ≤ a.toNat) : busRead (State.resetWith cgb p cart inp) a = busRead (resetIn cgb) a := by
  have hraw : rawRead (State.resetWith cgb p cart inp) a = rawRead (resetIn cgb) a := by
    unfold rawRead
    obtain ⟨lo, hr⟩ | ⟨off, hr⟩ | hr := regionOf_topPage h
    · rw [hr]
      show ioRead _ lo = ioRead _ lo
      unfold ioRead
      show (match ioRegAt cgb lo with | some r => _ | none => _) = (match ioRegAt cgb lo with | some r => _ | none => _)
      cases ioRegAt cgb lo with
      | none => rfl
      | some r => cases r <;> rfl
    · rw [hr]; rfl
    · rw [hr]; rfl
  unfold busRead
  rw [hraw]
  rfl

/-- A table of reads of the top page after reset, checked entry by entry for the closed state. -/
theorem resetWith_table (cgb : Bool) (p : Params) (cart : Cart) (inp : Inputs) {l : List (Word × Byte)}
    (h : ∀ x ∈ l, 0xFF00 ≤ x.1.toNat ∧ busRead (resetIn cgb) x.1 = x.2) :
    ∀ x ∈ l, busRead (State.resetWith cgb p cart inp) x.1 = x.2 :=
  fun x hx => (busRead_resetWith_topPage cgb p cart inp (h x hx).1).trans (h x hx).2

/-- Every storage cell outside the cartridge is 0 after reset (R28). -/
theorem resetWith_cell (cgb : Bool) (p : Params) (cart : Cart) (inp : Inputs) (c : Cell) (hrom : ∀ k, c ≠ .rom k)
    (heram : ∀ k, c ≠ .eram k) (hmbc2 : ∀ k, c ≠ .mbc2 k) : (State.resetWith cgb p cart inp).cell c = 0#8 := by
  cases c with
  | rom k => exact absurd rfl (hrom k)
  | eram k => exact absurd rfl (heram k)
  | mbc2 k => exact absurd rfl (hmbc2 k)
  | _ => rfl

/-- Wave RAM reads 0 after reset (R29). -/
theorem resetWith_wave (cgb : Bool) (p : Params) (cart : Cart) (inp : Inputs) (k : Nat) (h : k < 16) :
    busRead (State.resetWith cgb p cart inp) (BitVec.ofNat 16 (0xFF30 + k)) = 0x00#8 := by
  have hpage : ∀ k < 16, 0xFF00 ≤ (BitVec.ofNat 16 (0xFF30 + k)).toNat := by decide
  have hzero : ∀ c, ∀ k < 16, busRead (resetIn c) (BitVec.ofNat 16 (0xFF30 + k)) = 0x00#8 := by decide
  exact (busRead_resetWith_topPage cgb p cart inp (hpage k h)).trans (hzero cgb k h)

/-- The extended-mode registers: their table in extended mode, 0xFF in monochrome mode (R29). -/
theorem resetWith_extTable (cgb : Bool) (p : Params) (cart : Cart) (inp : Inputs) {l : List (Word × Byte)}
    (h : ∀ x ∈ l, 0xFF00 ≤ x.1.toNat ∧ busRead (resetIn cgb) x.1 = if cgb then x.2 else 0xFF#8) :
    ∀ x ∈ l, busRead (State.resetWith cgb p cart inp) x.1 = if cgb then x.2 else 0xFF#8 :=
  fun x hx => (busRead_resetWith_topPage cgb p cart inp (h x hx).1).trans (h x hx).2

/-- The register pairs after reset (R21, R23). -/
theorem cpuReset_pairs (cgb : Bool) :
    (Cpu.reset cgb).af = (if cgb then 0x1180#16 else 0x01B0#16) ∧
    (Cpu.reset cgb).bc = (if cgb then 0x0000#16 else 0x0013#16) ∧
    (Cpu.reset cgb).de = (if cgb then 0xFF56#16 else 0x00D8#16) ∧
    (Cpu.reset cgb).hl = (if cgb then 0x000D#16 else 0x014D#16) := by
  revert cgb; decide

/-- Settles O56 (log entries 1, 2, 3): every table of R29 evaluates to the values given, in both modes. -/
theorem resetValues : Obligations.ResetValues := by
  refine ⟨fun cgb p cart inp => ?_, rfl⟩
  obtain ⟨haf, hbc, hde, hhl⟩ := cpuReset_pairs cgb
  refine ⟨haf, hbc, hde, hhl, rfl, rfl, rfl, resetWith_cell cgb p cart inp, resetWith_table cgb p cart inp ?_,
    resetWith_table cgb p cart inp ?_, resetWith_wave cgb p cart inp, resetWith_table cgb p cart inp ?_,
    resetWith_extTable cgb p cart inp ?_⟩
  -- one closed evaluation for each entry of the four tables and each mode
  all_goals
    simp only [List.forall_mem_cons, List.not_mem_nil, IsEmpty.forall_iff, implies_true, and_true]
    and_intros <;> cases cgb <;> decide

end Sys2Proof.Machine
end

section
/-! SUPPORT. The bus by the ranges of its decode (20_memory.md R110 to R122, R130): where an address goes, when an access is
blocked, and the one cell that a CPU write reaches (R111). Settles `Obligations.BusWriteReachesOneCell`,
`Obligations.EchoAndReadBack` and `Obligations.BlockedAccesses`. -/
namespace Sys2Proof.Machine

/-! ### The decode, range by range -/

theorem regionOf_vram {a : Word} (lo : 0x8000 ≤ a.toNat) (hi : a.toNat ≤ 0x9FFF) :
    regionOf a = .vram (a.toNat - 0x8000) := by
  simp (disch := omega) only [regionOf, unEcho, regionOfPlain, if_pos, if_neg]

theorem regionOf_wram0 {a : Word} (lo : 0xC000 ≤ a.toNat) (hi : a.toNat ≤ 0xCFFF) :
    regionOf a = .wram0 (a.toNat - 0xC000) := by
  simp (disch := omega) only [regionOf, unEcho, regionOfPlain, if_pos, if_neg]

theorem regionOf_wramN {a : Word} (lo : 0xD000 ≤ a.toNat) (hi : a.toNat ≤ 0xDFFF) :
    regionOf a = .wramN (a.toNat - 0xD000) := by
  simp (disch := omega) only [regionOf, unEcho, regionOfPlain, if_pos, if_neg]

theorem regionOf_oam {a : Word} (lo : 0xFE00 ≤ a.toNat) (hi : a.toNat ≤ 0xFE9F) :
    regionOf a = .oam (a.toNat - 0xFE00) := by
  simp (disch := omega) only [regionOf, unEcho, regionOfPlain, if_pos, if_neg]

theorem regionOf_unusable {a : Word} (lo : 0xFEA0 ≤ a.toNat) (hi : a.toNat ≤ 0xFEFF) : regionOf a = .unusable := by
  simp (disch := omega) only [regionOf, unEcho, regionOfPlain, if_pos, if_neg]

theorem regionOf_hram {a : Word} (lo : 0xFF80 ≤ a.toNat) (hi : a.toNat ≤ 0xFFFE) :
    regionOf a = .hram (a.toNat - 0xFF80) := by
  simp (disch := omega) only [regionOf, unEcho, regionOfPlain, if_pos, if_neg]

theorem regionOf_ie {a : Word} (h : 0xFFFF ≤ a.toNat) : regionOf a = .ie := by
  simp (disch := omega) only [regionOf, unEcho, regionOfPlain, if_pos, if_neg]

/-- The echo decodes as the address 0x2000 below (R116). -/
theorem regionOf_echo {a : Word} (lo : 0xE000 ≤ a.toNat) (hi : a.toNat ≤ 0xFDFF) :
    regionOf (a - 0x2000#16) = regionOf a := by
  have hsub : (a - 0x2000#16).toNat = a.toNat - 0x2000 := by bv_omega
  simp (disch := omega) only [regionOf, unEcho, hsub, if_pos, if_neg]

/-! ### The range of a decoded address -/

theorem regionOf_eq_rom {a : Word} {n : Nat} (h : regionOf a = .rom n) : n < 0x8000 := by
  unfold regionOf regionOfPlain at h
  split_ifs at h
  exact Region.rom.inj h ▸ ‹_›

theorem regionOf_eq_cartRam {a : Word} {n : Nat} (h : regionOf a = .cartRam n) : 0x8000 ≤ n := by
  unfold regionOf regionOfPlain at h
  split_ifs at h
  exact Region.cartRam.inj h ▸ Nat.le_of_not_lt ‹_›

theorem regionOf_eq_io {a : Word} {lo : Nat} (h : regionOf a = .io lo) : a.toNat = 0xFF00 + lo ∧ lo < 0x80 := by
  unfold regionOf unEcho regionOfPlain at h
  split_ifs at h <;> (have := Region.io.inj h; omega)

/-! ### Blocking -/

theorem Ppu.vramBlocked_iff (p : Ppu) : p.vramBlocked = true ↔ p.lcdc.getLsbD 7 = true ∧ p.mode = .transfer := by
  simp only [Ppu.vramBlocked, Ppu.lcdOn, bit, Bool.and_eq_true, beq_iff_eq]

theorem oamBlocked_iff (s : State) : oamBlocked s = true ↔
    (s.ppu.lcdc.getLsbD 7 = true ∧ s.ppu.mode = .transfer) ∨ (s.ppu.lcdc.getLsbD 7 = true ∧ s.ppu.mode = .oamScan) ∨
      s.dma.active = true := by
  simp only [oamBlocked, Ppu.oamBlocked, Ppu.lcdOn, bit, Bool.and_eq_true, Bool.or_eq_true, beq_iff_eq]
  tauto

theorem readBlocked_iff (s : State) (a : Word) : readBlocked s a = true ↔
    (s.dma.active = true ∧ a.toNat < 0xFF00) ∨ ((0x8000 ≤ a.toNat ∧ a.toNat ≤ 0x9FFF) ∧ s.ppu.vramBlocked = true) ∨
      ((0xFE00 ≤ a.toNat ∧ a.toNat ≤ 0xFE9F) ∧ oamBlocked s = true) := by
  simp only [readBlocked, Bool.and_eq_true, Bool.or_eq_true, decide_eq_true_eq, or_assoc]

theorem busRead_of_blocked {s : State} {a : Word} (h : readBlocked s a = true) : busRead s a = 0xFF#8 := if_pos h

theorem busRead_of_not_blocked {s : State} {a : Word} (h : ¬ readBlocked s a = true) : busRead s a = rawRead s a :=
  if_neg h

/-- Outside video RAM and OAM only OAM DMA blocks, and only below the top page (R110). -/
theorem readBlocked_elsewhere (s : State) {a : Word} (hvram : ¬ (0x8000 ≤ a.toNat ∧ a.toNat ≤ 0x9FFF))
    (hoam : ¬ (0xFE00 ≤ a.toNat ∧ a.toNat ≤ 0xFE9F)) :
    readBlocked s a = (s.dma.active && decide (a.toNat < 0xFF00)) := by
  simp only [readBlocked, decide_eq_false hvram, decide_eq_false hoam, Bool.false_and, Bool.or_false]

theorem busRead_topPage (s : State) {a : Word} (h : 0xFF00 ≤ a.toNat) : busRead s a = rawRead s a := by
  refine busRead_of_not_blocked ?_
  rw [readBlocked_elsewhere s (by omega) (by omega), decide_eq_false (by omega), Bool.and_false]
  exact Bool.false_ne_true

theorem busRead_duringDma {s : State} {a : Word} (hdma : s.dma.active = true) (h : a.toNat < 0xFF00) :
    busRead s a = 0xFF#8 :=
  busRead_of_blocked ((readBlocked_iff s a).mpr (.inl ⟨hdma, h⟩))

theorem rawRead_of_region {s : State} {a : Word} {r : Region} (h : regionOf a = r) : rawRead s a = rawReadRegion s r := by
  rw [rawRead, h]

theorem busWrite_of_region {s : State} {a : Word} {r : Region} (h : regionOf a = r) (v : Byte) :
    busWrite s a v = busWriteRegion s r v := by
  rw [busWrite, h]

section
variable {s : State} {a : Word} (v : Byte)

/-- Video RAM in mode 3 (R114). -/
theorem vram_blocked (lo : 0x8000 ≤ a.toNat) (hi : a.toNat ≤ 0x9FFF) (h : s.ppu.vramBlocked = true) :
    busRead s a = 0xFF#8 ∧ busWrite s a v = s := by
  refine ⟨busRead_of_blocked ((readBlocked_iff s a).mpr (.inr (.inl ⟨⟨lo, hi⟩, h⟩))), ?_⟩
  rw [busWrite_of_region (regionOf_vram lo hi), busWriteRegion, if_pos h]

theorem vram_open (lo : 0x8000 ≤ a.toNat) (hi : a.toNat ≤ 0x9FFF) (h : ¬ s.ppu.vramBlocked = true)
    (hdma : s.dma.active = false) :
    busRead s a = s.vram.read (s.vramOff (a.toNat - 0x8000)) ∧
    busWrite s a v = { s with vram := s.vram.write (s.vramOff (a.toNat - 0x8000)) v } := by
  have hopen : ¬ readBlocked s a = true := by
    rw [readBlocked_iff, hdma]
    rintro (⟨h', -⟩ | ⟨-, h'⟩ | ⟨h', -⟩)
    · cases h'
    · exact h h'
    · omega
  refine ⟨(busRead_of_not_blocked hopen).trans (rawRead_of_region (regionOf_vram lo hi)), ?_⟩
  rw [busWrite_of_region (regionOf_vram lo hi), busWriteRegion, if_neg h]

/-- OAM in modes 2 and 3 and during OAM DMA (R117). -/
theorem oam_blocked (lo : 0xFE00 ≤ a.toNat) (hi : a.toNat ≤ 0xFE9F) (h : oamBlocked s = true) :
    busRead s a = 0xFF#8 ∧ busWrite s a v = s := by
  refine ⟨busRead_of_blocked ((readBlocked_iff s a).mpr (.inr (.inr ⟨⟨lo, hi⟩, h⟩))), ?_⟩
  rw [busWrite_of_region (regionOf_oam lo hi), busWriteRegion, if_pos h]

theorem oam_open (lo : 0xFE00 ≤ a.toNat) (hi : a.toNat ≤ 0xFE9F) (h : ¬ oamBlocked s = true) :
    busRead s a = s.oam.read (a.toNat - 0xFE00) ∧
    busWrite s a v = { s with oam := s.oam.write (a.toNat - 0xFE00) v } := by
  have hopen : ¬ readBlocked s a = true := by
    rw [readBlocked_iff]
    rintro (⟨hdma, -⟩ | ⟨h', -⟩ | ⟨-, h'⟩)
    · exact h ((oamBlocked_iff s).mpr (.inr (.inr hdma)))
    · omega
    · exact h h'
  refine ⟨(busRead_of_not_blocked hopen).trans (rawRead_of_region (regionOf_oam lo hi)), ?_⟩
  rw [busWrite_of_region (regionOf_oam lo hi), busWriteRegion, if_neg h]

/-- The unusable range (R119). -/
theorem unusable_blocked (lo : 0xFEA0 ≤ a.toNat) (hi : a.toNat ≤ 0xFEFF) :
    busRead s a = 0xFF#8 ∧ busWrite s a v = s := by
  refine ⟨?_, busWrite_of_region (regionOf_unusable lo hi) v⟩
  by_cases h : readBlocked s a = true
  · exact busRead_of_blocked h
  · exact (busRead_of_not_blocked h).trans (rawRead_of_region (regionOf_unusable lo hi))

end

/-- Settles O39: range by range. -/
theorem blockedAccesses : Obligations.BlockedAccesses := by
  intro s a v
  refine ⟨busRead_duringDma, busRead_topPage s, fun lo hi h => ?_, fun lo hi h => ?_, fun lo hi h => ?_,
    fun lo hi hmode3 hmode2 hdma => ?_, unusable_blocked v⟩
  · exact vram_blocked v lo hi (s.ppu.vramBlocked_iff.mpr h)
  · exact vram_open v lo hi (fun h' => h (s.ppu.vramBlocked_iff.mp h'))
  · exact oam_blocked v lo hi ((oamBlocked_iff s).mpr h)
  · refine oam_open v lo hi fun h => ?_
    obtain h | h | h := (oamBlocked_iff s).mp h
    · exact hmode3 h
    · exact hmode2 h
    · rw [hdma] at h; cases h

/-! ### The echo, and reading back -/

theorem readBlocked_echo (s : State) {a : Word} (lo : 0xE000 ≤ a.toNat) (hi : a.toNat ≤ 0xFDFF) :
    readBlocked s (a - 0x2000#16) = readBlocked s a := by
  have hsub : (a - 0x2000#16).toNat = a.toNat - 0x2000 := by bv_omega
  rw [readBlocked_elsewhere s (by omega) (by omega), readBlocked_elsewhere s (by omega) (by omega), hsub,
    decide_eq_true (by omega), decide_eq_true (by omega)]

theorem access_echo (s : State) {a : Word} (v : Byte) (lo : 0xE000 ≤ a.toNat) (hi : a.toNat ≤ 0xFDFF) :
    busRead s a = busRead s (a - 0x2000#16) ∧ busWrite s a v = busWrite s (a - 0x2000#16) v := by
  simp only [busRead, rawRead, busWrite, regionOf_echo lo hi, readBlocked_echo s lo hi, and_self]

/-- Only OAM DMA blocks a read of work RAM. -/
theorem busRead_wram {s : State} {a : Word} (lo : 0xC000 ≤ a.toNat) (hi : a.toNat ≤ 0xDFFF)
    (hdma : s.dma.active = false) : busRead s a = rawRead s a := by
  refine busRead_of_not_blocked ?_
  rw [readBlocked_elsewhere s (by omega) (by omega), hdma]
  exact Bool.false_ne_true

theorem readBack_wram {s : State} {a : Word} (v : Byte) (h : s.Canonical) (lo : 0xC000 ≤ a.toNat)
    (hi : a.toNat ≤ 0xDFFF) (hdma : s.dma.active = false) : busRead (busWrite s a v) a = v := by
  by_cases hbank : a.toNat ≤ 0xCFFF
  · have hr := regionOf_wram0 lo hbank
    rw [busWrite_of_region hr]
    refine (busRead_wram (s := busWriteRegion s (.wram0 _) v) lo hi hdma).trans ?_
    rw [rawRead_of_region hr]
    exact Store.read_write_same h.wram _ v
  · have hr := regionOf_wramN (by omega) hi
    rw [busWrite_of_region hr]
    refine (busRead_wram (s := busWriteRegion s (.wramN _) v) lo hi hdma).trans ?_
    rw [rawRead_of_region hr]
    exact Store.read_write_same h.wram _ v

theorem readBack_topPage {s : State} {a : Word} (v : Byte) (h : s.Canonical) (lo : 0xFF80 ≤ a.toNat) :
    busRead (busWrite s a v) a = v := by
  rw [busRead_topPage (a := a) (busWrite s a v) (by omega)]
  by_cases hie : a.toNat ≤ 0xFFFE
  · have hr := regionOf_hram lo hie
    rw [busWrite_of_region hr, rawRead_of_region hr]
    exact Store.read_write_same h.hram _ v
  · have hr := regionOf_ie (a := a) (by omega)
    rw [busWrite_of_region hr, rawRead_of_region hr]
    rfl

/-- Settles O38: the echo has the decode of the address below it; the storage array of the region reads back. -/
theorem echoAndReadBack : Obligations.EchoAndReadBack :=
  ⟨fun s _ v lo hi => access_echo s v lo hi, fun _ _ v h lo hi hdma => readBack_wram v h lo hi hdma,
   fun _ _ v h lo => readBack_topPage v h lo⟩

/-! ### The one cell of a write -/

/-- `t` holds what `s` holds, but in the cell `o`, if there is one, the byte `v`. -/
def StoredIn (s t : State) (o : Option Cell) (v : Byte) : Prop :=
  ∀ c, t.cell c = if o = some c then c.stored v else s.cell c

theorem storedIn_none {s t : State} {v : Byte} (h : ∀ c, t.cell c = s.cell c) : StoredIn s t none v :=
  fun c => (h c).trans (if_neg (by simp)).symm

theorem storedIn_some {s t : State} {d : Cell} {v : Byte} (hd : t.cell d = d.stored v)
    (hother : ∀ c, c ≠ d → t.cell c = s.cell c) : StoredIn s t (some d) v := by
  intro c
  by_cases h : c = d
  · rw [h, if_pos rfl]; exact hd
  · rw [if_neg (fun e => h (Option.some.inj e).symm)]; exact hother c h

/-- Reading after a write, with the offsets compared as cells of one array. -/
theorem Store.read_write_cell {m : Memory} (hm : Store.wf m) {mk : Nat → Cell} (hmk : ∀ i j, mk i = mk j → i = j)
    (off k : Nat) (v : Byte) :
    (m.write off v).read k = if some (mk off) = some (mk k) then v else m.read k := by
  rw [Store.read_write hm]
  exact if_congr ⟨fun e => by rw [e], fun e => (hmk _ _ (Option.some.inj e)).symm⟩ rfl rfl

/-- A register write reaches storage through wave RAM and the two palette data registers only (10_state.md R29). -/
theorem ioWriteReg_storedIn {s : State} (h : s.Canonical) {r : IoReg} {lo : Nat} (hr : ioRegAt s.cgb lo = some r)
    (v : Byte) : StoredIn s (ioWriteReg s r v) (s.targetOfRegion (.io lo)) v := by
  unfold State.targetOfRegion
  dsimp only
  rw [hr]
  cases r with
  | wave k =>
    simp only [ioWriteReg, Apu.writeWave]
    split
    · exact storedIn_none fun _ => rfl
    · intro c
      cases c with
      | wave j => exact Store.read_write_cell h.wave (fun _ _ => Cell.wave.inj) k j v
      | _ => rfl
  | bcpd =>
    simp only [ioWriteReg]
    split
    · exact storedIn_none fun _ => rfl
    · intro c
      cases c with
      | bgpal j => exact Store.read_write_cell h.bgpal (fun _ _ => Cell.bgpal.inj) _ j v
      | _ => rfl
  | ocpd =>
    simp only [ioWriteReg]
    split
    · exact storedIn_none fun _ => rfl
    · intro c
      cases c with
      | obpal j => exact Store.read_write_cell h.obpal (fun _ _ => Cell.obpal.inj) _ j v
      | _ => rfl
  | _ => exact storedIn_none fun _ => rfl

theorem ioWrite_storedIn {s : State} (h : s.Canonical) (lo : Nat) (v : Byte) :
    StoredIn s (ioWrite s lo v) (s.targetOfRegion (.io lo)) v := by
  unfold ioWrite
  split
  · exact ioWriteReg_storedIn h ‹_› v
  · rename_i hnone
    unfold State.targetOfRegion
    dsimp only
    rw [hnone]
    exact storedIn_none fun _ => rfl

/-- A new cartridge with the same arrays: every cell is as before. -/
theorem cell_of_cart {s : State} {c : Cart} (i : Inputs) (hrom : c.rom = s.cart.rom) (heram : c.eram = s.cart.eram)
    (hmbc2 : c.mapper.mbc2Ram = s.cart.mapper.mbc2Ram) (d : Cell) :
    State.cell { s with cart := c, inputs := i } d = s.cell d := by
  cases d with
  | rom k => exact congrArg (Store.read · k) hrom
  | eram k => exact congrArg (Store.read · k) heram
  | mbc2 k => exact congrArg (fun m => (Store.read m k).setWidth 8) hmbc2
  | _ => rfl

/-- Only a type-2 mapper gives access to half-bytes (65_cartridge.md R665). -/
theorem Cart.ramTarget_mbc2 {c : Cart} {a k : Nat} (h : c.ramTarget a = .mbc2 k) : ∃ m, c.mapper = .mbc2 m := by
  unfold Cart.ramTarget Cart.eramTarget at h
  split at h
  case h_3 m hm => exact ⟨m, hm⟩
  all_goals split_ifs at h

theorem extractLsb'_setWidth_low_nibble (v : Byte) : (v.extractLsb' 0 4).setWidth 8 = v &&& 0x0F#8 := by
  revert v; decide

/-- The RAM of a type-2 mapper stores bits 3:0 (65_cartridge.md R665). -/
theorem storedIn_mbc2 {s : State} {m : Mbc2} {i : Inputs} (hm : s.cart.mapper = .mbc2 m) (h : Store.wf m.ram) (idx : Nat)
    (v : Byte) :
    StoredIn s { s with cart := { s.cart with mapper := .mbc2 { m with ram := m.ram.write idx (v.extractLsb' 0 4) } },
                        inputs := i } (some (.mbc2 idx)) v := by
  refine storedIn_some ?_ fun c hc => ?_
  · show ((m.ram.write idx (v.extractLsb' 0 4)).read idx).setWidth 8 = v &&& 0x0F#8
    rw [Store.read_write_same h, extractLsb'_setWidth_low_nibble]
  · cases c with
    | mbc2 k =>
      show ((m.ram.write idx (v.extractLsb' 0 4)).read k).setWidth 8 = (s.cart.mapper.mbc2Ram.read k).setWidth 8
      rw [Store.read_write_other h _ fun e => hc (congrArg Cell.mbc2 e), hm]
      rfl
    | _ => rfl

/-- A write of a clock register leaves the cartridge's arrays alone (65_cartridge.md R672). -/
theorem Cart.ramWrite_rtc {c : Cart} {a reg : Nat} (i : Inputs) (v : Byte) (h : c.ramTarget a = .rtc reg) :
    (c.ramWrite i a v).1.rom = c.rom ∧ (c.ramWrite i a v).1.eram = c.eram ∧
      (c.ramWrite i a v).1.mapper.mbc2Ram = c.mapper.mbc2Ram := by
  unfold Cart.ramWrite
  rw [h]
  cases hm : c.mapper with
  | mbc3 m =>
    dsimp only
    split
    · exact ⟨rfl, rfl, rfl⟩
    · exact ⟨rfl, rfl, by rw [hm]⟩
  | _ => exact ⟨rfl, rfl, congrArg Mapper.mbc2Ram hm⟩

theorem cartRam_storedIn {s : State} (h : s.Canonical) {a : Nat} (ha : 0x8000 ≤ a) (v : Byte) :
    StoredIn s (busWriteRegion s (.cartRam a) v) (s.targetOfRegion (.cartRam a)) v := by
  simp only [busWriteRegion, State.targetOfRegion, Cart.write, if_neg (Nat.not_lt.mpr ha)]
  cases htarget : s.cart.ramTarget a with
  | absent =>
    simp only [Cart.ramWrite, htarget]
    exact storedIn_none fun _ => rfl
  | eram off =>
    simp only [Cart.ramWrite, htarget]
    intro c
    cases c with
    | eram k => exact Store.read_write_cell h.eram (fun _ _ => Cell.eram.inj) off k v
    | _ => rfl
  | mbc2 idx =>
    obtain ⟨m, hm⟩ := Cart.ramTarget_mbc2 htarget
    simp only [Cart.ramWrite, htarget, hm]
    exact storedIn_mbc2 hm (by simpa only [Mapper.canonical, hm, Mapper.mbc2Ram] using h.mbc2) idx v
  | rtc reg =>
    obtain ⟨hrom, heram, hmbc2⟩ := Cart.ramWrite_rtc s.inputs v htarget
    exact storedIn_none (cell_of_cart _ hrom heram hmbc2)

/-- Every decoded write does what its target says (R111). -/
theorem busWriteRegion_storedIn {s : State} (h : s.Canonical) {a : Word} {r : Region} (hr : regionOf a = r) (v : Byte) :
    StoredIn s (busWriteRegion s r v) (s.targetOfRegion r) v := by
  cases r with
  | rom x =>
    simp only [busWriteRegion, State.targetOfRegion, Cart.write, if_pos (regionOf_eq_rom hr)]
    exact storedIn_none (cell_of_cart _ (control_rom ..) (control_eram ..) (control_mbc2Ram ..))
  | cartRam x => exact cartRam_storedIn h (regionOf_eq_cartRam hr) v
  | vram off =>
    simp only [busWriteRegion, State.targetOfRegion]
    split
    · exact storedIn_none fun _ => rfl
    · intro c
      cases c with
      | vram k => exact Store.read_write_cell h.vram (fun _ _ => Cell.vram.inj) _ k v
      | _ => rfl
  | wram0 off =>
    intro c
    cases c with
    | wram k => exact Store.read_write_cell h.wram (fun _ _ => Cell.wram.inj) _ k v
    | _ => rfl
  | wramN off =>
    intro c
    cases c with
    | wram k => exact Store.read_write_cell h.wram (fun _ _ => Cell.wram.inj) _ k v
    | _ => rfl
  | oam off =>
    simp only [busWriteRegion, State.targetOfRegion]
    split
    · exact storedIn_none fun _ => rfl
    · intro c
      cases c with
      | oam k => exact Store.read_write_cell h.oam (fun _ _ => Cell.oam.inj) _ k v
      | _ => rfl
  | unusable => exact storedIn_none fun _ => rfl
  | io lo => exact ioWrite_storedIn h lo v
  | hram off =>
    intro c
    cases c with
    | hram k => exact Store.read_write_cell h.hram (fun _ _ => Cell.hram.inj) _ k v
    | _ => rfl
  | ie => exact storedIn_none fun _ => rfl

/-- Settles O37: the decode gives the region, the region its cell. -/
theorem busWriteReachesOneCell : Obligations.BusWriteReachesOneCell :=
  fun _ _ v c h => busWriteRegion_storedIn h rfl v c

end Sys2Proof.Machine
end

section
/-! SUPPORT. The memory frame of an instruction, by the shapes of `ExecShape` (00_scope.md R11; 20_memory.md R106, R111): time
alone changes a cell only where OAM DMA runs, and a store changes the one cell it reaches. Settles
`Obligations.NonStoringInstructionsOnlyPassTime` and `Obligations.MemoryFrame`. -/
namespace Sys2Proof.Machine

/-- Settles O31: of the shapes of an instruction the first alone makes no store and is not STOP. -/
theorem nonStoringInstructionsOnlyPassTime : Obligations.NonStoringInstructionsOnlyPassTime := by
  intro i s t w hnone hstop h
  cases exec_shape w h with
  | pass n _ hc e => rw [hc]; exact e
  | stop pad hi _ => exact absurd hi (hstop pad)
  | one k x hs _ _ _ => rw [hs] at hnone; cases hnone
  | two k x y hs _ _ _ _ => rw [hs] at hnone; cases hnone

/-! ### Cells and time -/

/-- Time leaves the cell alone: it is no OAM cell, or no OAM DMA runs. -/
def State.Still (s : State) (c : Cell) : Prop := (∀ k, c ≠ .oam k) ∨ s.dma.active = false

theorem advanceM_oam {s : State} (h : s.dma.active = false) :
    (advanceM s).dma.active = false ∧ (advanceM s).oam = s.oam := by
  refine advanceM_keeps (P := fun t => t.dma.active = false ∧ t.oam = s.oam) (fun k t ht => ?_) (fun _ ht => ht) s ⟨h, rfl⟩
  obtain ⟨hdma, hoam⟩ := ht
  unfold tickFast oamDmaStep
  split <;> simp [hdma, hoam]

theorem advanceM_still {s : State} {c : Cell} (h : s.Still c) : (advanceM s).Still c :=
  h.imp_right fun hdma => (advanceM_oam hdma).1

theorem advanceM_cell {s : State} {c : Cell} (h : s.Still c) : (advanceM s).cell c = s.cell c := by
  cases c with
  | oam k =>
    obtain hoam | hdma := h
    · exact absurd rfl (hoam k)
    · exact congrArg (Store.read · k) (advanceM_oam hdma).2
  | _ => simp only [State.cell, advanceM_cart, advanceM_vram, advanceM_wram, advanceM_hram, advanceM_bgpal, advanceM_obpal,
      advanceM_wave]

theorem passM_canonical (n : Nat) {s : State} (h : s.Canonical) : (passM n s).Canonical := by
  induction n generalizing s with
  | zero => exact h
  | succ n ih => exact ih (advanceM_canonical h)

theorem passM_still (n : Nat) {s : State} {c : Cell} (h : s.Still c) : (passM n s).Still c := by
  induction n generalizing s with
  | zero => exact h
  | succ n ih => exact ih (advanceM_still h)

theorem passM_cell (n : Nat) {s : State} {c : Cell} (h : s.Still c) : (passM n s).cell c = s.cell c := by
  induction n generalizing s with
  | zero => rfl
  | succ n ih => exact (ih (advanceM_still h)).trans (advanceM_cell h)

/-! ### Cells and stores -/

/-- The DMA register stands at 0xFF46 (10_state.md R29). -/
theorem ioRegAt_dma {cgb : Bool} : ∀ lo < 0x80, ioRegAt cgb lo = some .dma → lo = 0x46 := by
  revert cgb; decide

theorem busWrite_dma (s : State) {a : Word} (v : Byte) (h : a ≠ 0xFF46#16) : (busWrite s a v).dma = s.dma := by
  cases hr : regionOf a with
  | io lo =>
    obtain ⟨ha, hlo⟩ := regionOf_eq_io hr
    rw [busWrite_of_region hr, busWriteRegion, ioWrite]
    split
    · rename_i r hreg
      cases r with
      | dma =>
        have hlo' := ioRegAt_dma lo hlo hreg
        exact absurd (BitVec.eq_of_toNat_eq (by rw [ha, hlo']; rfl)) h
      | _ => rfl
    · rfl
  | _ => rw [busWrite_of_region hr]; rfl

theorem storeTarget_dmaReg (s : State) : s.storeTarget 0xFF46#16 = none := by
  have hr : regionOf 0xFF46#16 = .io 0x46 := by decide
  unfold State.storeTarget State.targetOfRegion
  rw [hr]
  cases s.cgb <;> rfl

theorem oamBlocked_of_target {s : State} {r : Region} {k : Nat} (h : s.targetOfRegion r = some (.oam k)) :
    oamBlocked s = false := by
  unfold State.targetOfRegion at h
  split at h
  case h_5 off =>
    split at h
    · cases h
    · exact Bool.eq_false_iff.mpr ‹_›
  all_goals repeat' split at h
  all_goals cases h

/-- A store that reaches a cell finds it still: OAM is closed to stores while OAM DMA runs (R117). -/
theorem still_of_storeTarget {s : State} {a : Word} {c : Cell} (h : s.storeTarget a = some c) : s.Still c := by
  by_cases hc : ∃ k, c = .oam k
  · obtain ⟨k, rfl⟩ := hc
    exact .inr (Bool.or_eq_false_iff.mp (oamBlocked_of_target h)).2
  · exact .inl fun k e => hc ⟨k, e⟩

/-- The store neither reaches the cell nor, where it is an OAM cell, starts an OAM DMA. -/
def BusStore.Spares (x : BusStore) (c : Cell) : Prop :=
  x.at_.storeTarget x.addr ≠ some c ∧ ((∀ k, c ≠ .oam k) ∨ x.addr ≠ 0xFF46#16)

theorem busWrite_still {s : State} {a : Word} {c : Cell} (v : Byte) (h : s.Still c)
    (ha : (∀ k, c ≠ .oam k) ∨ a ≠ 0xFF46#16) : (busWrite s a v).Still c := by
  obtain hoam | ha := ha
  · exact .inl hoam
  · exact h.imp_right fun hdma => (congrArg OamDma.active (busWrite_dma s v ha)).trans hdma

/-- A store with its M-cycle, and a cell that it spares. -/
theorem memWrite_spared {x : BusStore} {c : Cell} (hx : x.Spares c) (hcan : x.at_.Canonical) (h : x.at_.Still c) :
    (memWrite x.at_ x.addr x.val).Still c ∧ (memWrite x.at_ x.addr x.val).cell c = x.at_.cell c := by
  have hstill := busWrite_still x.val h hx.2
  have hcell := (busWriteReachesOneCell x.at_ x.addr x.val c hcan).trans (if_neg hx.1)
  exact ⟨advanceM_still hstill, (advanceM_cell hstill).trans hcell⟩

/-- A store with its M-cycle, and the cell that it reaches. -/
theorem memWrite_stored {x : BusStore} {c : Cell} (hx : x.at_.storeTarget x.addr = some c) (hcan : x.at_.Canonical) :
    (memWrite x.at_ x.addr x.val).Still c ∧ (memWrite x.at_ x.addr x.val).cell c = c.stored x.val := by
  have haddr : x.addr ≠ 0xFF46#16 := by
    intro e; rw [e, storeTarget_dmaReg] at hx; cases hx
  have hstill := busWrite_still x.val (still_of_storeTarget hx) (.inr haddr)
  have hcell := (busWriteReachesOneCell x.at_ x.addr x.val c hcan).trans (if_pos hx)
  exact ⟨advanceM_still hstill, (advanceM_cell hstill).trans hcell⟩

/-! ### Cells and instructions -/

theorem cell_of_withCpu {t u : State} (e : t = withCpu u t.cpu) (c : Cell) : t.cell c = u.cell c := by
  rw [e]; cases c <;> rfl

theorem opStop_cell (s : State) (c : Cell) : (opStop s).cell c = s.cell c := by
  unfold opStop; split <;> cases c <;> rfl

/-- A cell that time and every store of the instruction spare. -/
theorem ExecShape.cell_spared {i : Instr} {s t : State} {c : Cell} (h : ExecShape i s t) (hcan : s.Canonical)
    (hstill : s.Still c) (hspared : ∀ x ∈ i.stores s, x.Spares c) : t.cell c = s.cell c := by
  cases h with
  | pass n _ _ e => exact (cell_of_withCpu e c).trans (passM_cell n hstill)
  | stop pad _ e => rw [e, opStop_cell]
  | one k x hs hx _ e =>
    rw [hs, List.forall_mem_singleton] at hspared
    have hafter := memWrite_spared hspared (hx ▸ passM_canonical k hcan) (hx ▸ passM_still k hstill)
    calc t.cell c = (memWrite x.at_ x.addr x.val).cell c := cell_of_withCpu e c
      _ = x.at_.cell c := hafter.2
      _ = s.cell c := by rw [hx, passM_cell k hstill]
  | two k x y hs hx hy _ e =>
    rw [hs, List.forall_mem_cons, List.forall_mem_singleton] at hspared
    have hcanx : x.at_.Canonical := hx ▸ passM_canonical k hcan
    have hafterx := memWrite_spared hspared.1 hcanx (hx ▸ passM_still k hstill)
    have haftery := memWrite_spared hspared.2 (hy ▸ memWrite_canonical _ _ hcanx) (hy ▸ hafterx.1)
    calc t.cell c = (memWrite y.at_ y.addr y.val).cell c := cell_of_withCpu e c
      _ = y.at_.cell c := haftery.2
      _ = x.at_.cell c := by rw [hy, hafterx.2]
      _ = s.cell c := by rw [hx, passM_cell k hstill]

theorem eq_of_singleton_eq {y x : BusStore} {pre post : List BusStore} (h : [y] = pre ++ x :: post) :
    y = x ∧ post = [] := by
  obtain ⟨-, hx⟩ | ⟨-, hx⟩ := List.append_eq_singleton_iff.mp h.symm
  · obtain ⟨rfl, rfl⟩ := List.cons.inj hx
    exact ⟨rfl, rfl⟩
  · cases hx

/-- A cell that the store `x` of the instruction reaches and the stores after it spare. -/
theorem ExecShape.cell_stored {i : Instr} {s t : State} {c : Cell} {pre post : List BusStore} {x : BusStore}
    (h : ExecShape i s t) (hcan : s.Canonical) (hstores : i.stores s = pre ++ x :: post)
    (hx : x.at_.storeTarget x.addr = some c) (hspared : ∀ y ∈ post, y.Spares c) : t.cell c = c.stored x.val := by
  cases h with
  | pass n hs _ _ => simp [hs] at hstores
  | stop pad hi _ =>
    subst hi
    exact absurd hstores.symm (List.append_ne_nil_of_right_ne_nil _ (List.cons_ne_nil _ _))
  | one k y hs hy _ e =>
    obtain ⟨rfl, -⟩ := eq_of_singleton_eq (hs.symm.trans hstores)
    rw [cell_of_withCpu e]
    exact (memWrite_stored hx (hy ▸ passM_canonical k hcan)).2
  | two k y z hs hy hz _ e =>
    have hcany : y.at_.Canonical := hy ▸ passM_canonical k hcan
    have hcanz : z.at_.Canonical := hz ▸ memWrite_canonical _ _ hcany
    rw [cell_of_withCpu e]
    cases pre with
    | nil =>
      obtain ⟨rfl, rfl⟩ := List.cons.inj (hs.symm.trans hstores)
      have hafter := memWrite_stored hx hcany
      have hlast := memWrite_spared (hspared z (List.mem_singleton_self z)) hcanz (hz ▸ hafter.1)
      rw [hlast.2, hz, hafter.2]
    | cons p pre =>
      obtain ⟨rfl, -⟩ := eq_of_singleton_eq (List.cons.inj (hs.symm.trans hstores)).2
      exact (memWrite_stored hx hcanz).2

/-- Settles O32: the three clauses are the spared and the stored cells of every shape. -/
theorem memoryFrame : Obligations.MemoryFrame := by
  intro i s t w hcan h
  have hshape := exec_shape w h
  refine ⟨fun c hoam hnot => ?_, fun k hdma hnot => ?_, fun pre post x c hstores hx hpost => ?_⟩
  · exact hshape.cell_spared hcan (.inl hoam) fun x hx => ⟨hnot x hx, .inl hoam⟩
  · exact hshape.cell_spared hcan (.inr hdma) fun x hx => ⟨(hnot x hx).1, .inr (hnot x hx).2⟩
  · exact hshape.cell_stored hcan hstores hx fun y hy => ⟨(hpost y hy).1, .inr (hpost y hy).2⟩

end Sys2Proof.Machine
end

section
/-! SUPPORT. What a step fetches (30_encoding.md R160 to R163; log entry 5) and how long it takes (70_reset_and_hazards.md
R720), read off the `keys` port, of which every T-cycle uses one scheduled value (log entry 4). Settles
`Obligations.DurationOfEveryStep`. -/
namespace Sys2Proof

/-! ### The bytes of an instruction -/

theorem decodePrefixed_length (op2 : Byte) : (encode (decodePrefixed op2)).length = 2 := by
  revert op2; decide

/-- The length of an instruction is a matter of its opcode, not of the bytes after it. -/
theorem decodeInstr_length_eq (op n1 n2 : Byte) :
    (encode (decodeInstr op n1 n2)).length = (encode (decodeInstr op 0#8 0#8)).length := by
  have hx0 : ∀ y z n nn, (encode (decodeX0 y z n nn)).length = (encode (decodeX0 y z 0#8 0#16)).length := by
    intro y z n nn; cases z <;> cases y <;> rfl
  have hx3 : ∀ y z n nn, (encode (decodeX3 y z n nn)).length = (encode (decodeX3 y z 0#8 0#16)).length := by
    intro y z n nn
    have hcb := decodePrefixed_length n
    cases z <;> cases y <;> first | exact hcb | rfl
  unfold decodeInstr
  split
  · exact hx0 ..
  · rfl
  · rfl
  · exact hx3 ..

theorem decodeInstr_length (op n1 n2 : Byte) : (encode (decodeInstr op n1 n2)).length = opLength op := by
  rw [decodeInstr_length_eq]
  revert op; decide

/-- An instruction makes no use of a byte beyond its length. -/
theorem decodeInstr_congr {op n1 n2 m1 m2 : Byte} (h1 : 2 ≤ opLength op → n1 = m1) (h2 : 3 ≤ opLength op → n2 = m2) :
    decodeInstr op n1 n2 = decodeInstr op m1 m2 := by
  have hx0 : ∀ y z n nn m mm, (2 ≤ (encode (decodeX0 y z n nn)).length → n = m) →
      (3 ≤ (encode (decodeX0 y z n nn)).length → nn = mm) → decodeX0 y z n nn = decodeX0 y z m mm := by
    intro y z n nn m mm hn hnn
    cases z <;> cases y <;>
      first
        | rfl
        | (obtain rfl := hn (Nat.le_refl 2); rfl)
        | (obtain rfl := hnn (Nat.le_refl 3); rfl)
  have hx3 : ∀ y z n nn m mm, (2 ≤ (encode (decodeX3 y z n nn)).length → n = m) →
      (3 ≤ (encode (decodeX3 y z n nn)).length → nn = mm) → decodeX3 y z n nn = decodeX3 y z m mm := by
    intro y z n nn m mm hn hnn
    cases z <;> cases y
    case o3.o1 => rw [hn (decodePrefixed_length n).ge]; rfl
    all_goals
      first
        | rfl
        | (obtain rfl := hn (Nat.le_refl 2); rfl)
        | (obtain rfl := hnn (Nat.le_refl 3); rfl)
  have hpair : 3 ≤ opLength op → pair n2 n1 = pair m2 m1 := fun h => by rw [h1 (by omega), h2 h]
  rw [← decodeInstr_length op n1 n2] at h1 hpair
  revert h1 hpair
  unfold decodeInstr
  split
  · exact hx0 _ _ _ _ _ _
  · exact fun _ _ => rfl
  · exact fun _ _ => rfl
  · exact hx3 _ _ _ _ _ _

namespace Machine

/-! ### The fetch -/

theorem fetch8_eq (s : State) : fetch8 s = (s.fetchByte 0, s.afterFetch 1) := by
  show (busRead s s.cpu.pc, _) = (busRead s (s.cpu.pc + 0#16), _)
  rw [BitVec.add_zero]; rfl

theorem advanceM_passM (n : Nat) (s : State) : advanceM (passM n s) = passM (n + 1) s := by
  induction n generalizing s with
  | zero => rfl
  | succ n ih => exact ih (advanceM s)

theorem fetch8_afterFetch (s : State) (n : Nat) :
    fetch8 (s.afterFetch n) = (s.fetchByte n, s.afterFetch (n + 1)) := by
  have hpc : s.cpu.pc + BitVec.ofNat 16 n + 1#16 = s.cpu.pc + BitVec.ofNat 16 (n + 1) := by
    rw [BitVec.add_assoc, BitVec.ofNat_add]
  simp only [fetch8, memRead, State.afterFetch, State.fetchByte, State.setPc_cpu_pc, busRead_setPc, advanceM_setPc,
    advanceM_passM, hpc]
  rfl

/-- The fetch gives the instruction at `pc`, and takes one M-cycle for each of its bytes (log entry 5). -/
theorem fetchInstr_eq (s : State) :
    fetchInstr s = (s.nextInstr, s.afterFetch (encode s.nextInstr).length) := by
  have hlen : (encode s.nextInstr).length = opLength (s.fetchByte 0) := decodeInstr_length ..
  unfold fetchInstr
  rw [fetch8_eq s]
  dsimp only
  rw [fetch8_afterFetch]
  dsimp only
  rw [fetch8_afterFetch, hlen]
  dsimp only
  obtain h | h | h := opLength_cases (s.fetchByte 0)
  · have hi : decodeInstr (s.fetchByte 0) 0#8 0#8 = s.nextInstr := decodeInstr_congr (by omega) (by omega)
    rw [h, ← hi]; rfl
  · have hi : decodeInstr (s.fetchByte 0) (s.fetchByte 1) 0#8 = s.nextInstr := decodeInstr_congr (fun _ => rfl) (by omega)
    rw [h, ← hi]; rfl
  · rw [h]; rfl

/-! ### How long the primitives take -/

/-- From `s` to `t` as many values of the `keys` schedule are used as `n` M-cycles use: one in each T-cycle. -/
def Takes (n : Nat) (s t : State) : Prop := t.inputs.keysIn = s.inputs.keysIn.drop (4 * n)

namespace Takes

theorem trans {m n : Nat} {s t u : State} (h : Takes m s t) (h' : Takes n t u) : Takes (m + n) s u := by
  unfold Takes at *
  rw [h', h, List.drop_drop, Nat.mul_add]

theorem of_inputs {s t : State} (h : t.inputs = s.inputs) : Takes 0 s t := by
  rw [Takes, h]; rfl

/-- The CPU's own registers tell nothing of the time. -/
theorem withCpu {n : Nat} {s t u : State} (h : Takes n s u) (e : t = Machine.withCpu u t.cpu) : Takes n s t := by
  rw [e]; exact h

end Takes

theorem nextKeys_keysIn (i : Inputs) : i.nextKeys.keysIn = i.keysIn.drop 1 := by
  unfold Inputs.nextKeys
  split <;> (rename_i h; rw [h]; rfl)

theorem tickFast_keysIn (k : Nat) (s : State) : (tickFast k s).inputs.keysIn = s.inputs.keysIn.drop 1 := by
  rw [← nextKeys_keysIn]
  unfold tickFast
  split <;> rfl

theorem tickT_keysIn (k : Nat) (s : State) : (tickT k s).inputs.keysIn = s.inputs.keysIn.drop 1 := by
  rw [← tickFast_keysIn k s]
  unfold tickT
  split <;> rfl

theorem takes_advanceM (s : State) : Takes 1 s (advanceM s) := by
  simp only [Takes, advanceM, tickT_keysIn, List.drop_drop]

theorem takes_passM (n : Nat) (s : State) : Takes n s (passM n s) := by
  induction n generalizing s with
  | zero => exact .of_inputs rfl
  | succ n ih =>
    have h := (takes_advanceM s).trans (ih (advanceM s))
    rwa [Nat.add_comm] at h

/-! ### How long a store takes: the cartridge's clock reads `now` and leaves `keys` alone -/

theorem nextNow_keysIn (i : Inputs) : i.nextNow.keysIn = i.keysIn := by
  unfold Inputs.nextNow; split <;> rfl

theorem Rtc.write_keysIn (t : Rtc) (i : Inputs) (reg : Nat) (v : Byte) : (t.write i reg v).2.keysIn = i.keysIn := by
  unfold Rtc.write
  split
  · dsimp only
    split
    · exact nextNow_keysIn i
    · rfl
  · rfl

theorem Mbc3.latch_keysIn (m : Mbc3) (i : Inputs) (v : Byte) : (m.latch i v).2.keysIn = i.keysIn := by
  unfold Mbc3.latch
  split
  · split
    · exact nextNow_keysIn i
    · rfl
  · rfl

theorem Cart.control_keysIn (c : Cart) (i : Inputs) (a : Nat) (v : Byte) : (c.control i a v).2.keysIn = i.keysIn := by
  unfold Cart.control
  split
  case h_4 m _ =>
    unfold Mbc3.control
    split_ifs
    · rfl
    · rfl
    · rfl
    · exact Mbc3.latch_keysIn m i v
  all_goals rfl

theorem Cart.ramWrite_keysIn (c : Cart) (i : Inputs) (a : Nat) (v : Byte) : (c.ramWrite i a v).2.keysIn = i.keysIn := by
  unfold Cart.ramWrite
  split
  · rfl
  · rfl
  · split
    · exact Rtc.write_keysIn ..
    · rfl
  · rfl

theorem Cart.write_keysIn (c : Cart) (i : Inputs) (a : Nat) (v : Byte) : (c.write i a v).2.keysIn = i.keysIn := by
  unfold Cart.write
  split
  · exact Cart.control_keysIn ..
  · exact Cart.ramWrite_keysIn ..

theorem ioWrite_inputs (s : State) (lo : Nat) (v : Byte) : (ioWrite s lo v).inputs = s.inputs := by
  unfold ioWrite
  split
  · rename_i r _; cases r <;> rfl
  · rfl

theorem takes_busWrite (s : State) (a : Word) (v : Byte) : Takes 0 s (busWrite s a v) := by
  unfold busWrite
  cases regionOf a with
  | rom x => exact Cart.write_keysIn ..
  | cartRam x => exact Cart.write_keysIn ..
  | io lo => exact .of_inputs (ioWrite_inputs ..)
  | _ => exact .of_inputs rfl

theorem takes_memWrite (s : State) (a : Word) (v : Byte) : Takes 1 s (memWrite s a v) :=
  (takes_busWrite s a v).trans (takes_advanceM _)

/-! ### How long each kind of step takes -/

theorem ExecShape.takes {i : Instr} {s t : State} (h : ExecShape i s t) : Takes (i.cyclesAfterFetch s.cpu.f) s t := by
  cases h with
  | pass n _ hc e => rw [hc]; exact (takes_passM n s).withCpu e
  | stop pad hi e =>
    rw [hi, e]
    refine .of_inputs ?_
    unfold opStop; split <;> rfl
  | one k x _ hx hc e =>
    rw [hx] at e
    rw [hc]
    exact ((takes_passM k s).trans (takes_memWrite ..)).withCpu e
  | two k x y _ hx hy hc e =>
    rw [hy, hx] at e
    rw [hc]
    exact (((takes_passM k s).trans (takes_memWrite ..)).trans (takes_memWrite ..)).withCpu e

theorem takes_push16 (s : State) (v : Word) : Takes 2 s (push16 s v) := by
  rw [push16_eq]
  exact ((takes_memWrite s _ _).trans (takes_memWrite ..)).withCpu rfl

theorem takes_chooseVector (s : State) : Takes 0 s (chooseVector s) := by
  refine .of_inputs ?_
  unfold chooseVector; split <;> rfl

theorem takes_dispatch (s : State) : Takes 4 s (dispatch s) := by
  have hidle : Takes 2 s (((idleM (idleM s)).setIme false).setImePending false) :=
    ((takes_advanceM s).trans (takes_advanceM _)).withCpu rfl
  exact (hidle.trans (takes_push16 _ _)).trans (takes_chooseVector _)

theorem takes_hdmaStepM (s : State) : Takes 1 s (hdmaStepM s) := by
  unfold hdmaStepM
  refine Takes.trans (m := 0) (.of_inputs ?_) (takes_advanceM _)
  split <;> rfl

theorem takes_instruction {s u : State} (p : Bool) (h : exec (fetchInstr s).1 (fetchInstr s).2 = .next u) :
    Takes ((encode s.nextInstr).length + s.nextInstr.cyclesAfterFetch s.cpu.f) s (delayedEnable p u) := by
  have hexec := (exec_shape (fetchInstr_wellFormed s) h).takes
  rw [fetchInstr_eq, State.afterFetch] at hexec
  have hdelay : (delayedEnable p u).inputs = u.inputs := by unfold delayedEnable; split <;> rfl
  rw [State.setPc_cpu_f, passM_cpu] at hexec
  exact ((takes_passM _ s).trans hexec).trans (.of_inputs hdelay)

theorem dispatches_iff (s : State) :
    dispatches s = true ↔ s.cpu.stop = false ∧ s.cpu.ime = true ∧ s.irq.pending ≠ 0#5 := by
  simp only [dispatches, Bool.and_eq_true, Bool.not_eq_true', bne_iff_ne, and_assoc]

/-! ### Which kind of step it is -/

theorem step_frozen {s : State} (h : s.cpu.illegal = true) : step s = .next s := if_pos h

theorem step_held {s : State} (hi : s.cpu.illegal = false) (hh : hdmaHolds s = true) : step s = .next (hdmaStepM s) := by
  unfold step cpuStep
  rw [if_neg (Bool.eq_false_iff.mp hi), if_pos hh]

theorem step_awake {s : State} (hi : s.cpu.illegal = false) (hh : hdmaHolds s = false) :
    step s = awakeStep (wakeStop (wakeHalt s)) := by
  unfold step cpuStep
  rw [if_neg (Bool.eq_false_iff.mp hi), if_neg (Bool.eq_false_iff.mp hh)]

/-- After the wake rules a halted or stopped CPU takes no interrupt: a pending one would have ended the halt. -/
theorem not_dispatches_of_waiting {s : State} (h : (wakeStop (wakeHalt s)).cpu.stop = true ∨
    (wakeStop (wakeHalt s)).cpu.halt = true) : dispatches (wakeStop (wakeHalt s)) = false := by
  rw [Bool.eq_false_iff, ne_eq, dispatches_iff]
  rintro ⟨hstop, -, hpending⟩
  obtain h | h := h
  · rw [hstop] at h; cases h
  · exact hpending (beq_iff_eq.mp (Bool.and_eq_true_iff.mp h).2)

theorem takes_waiting {s t : State} (hd : dispatches s = false) (hwait : s.cpu.stop = true ∨ s.cpu.halt = true)
    (h : awakeStep s = .next t) : Takes 1 s t := by
  have hor : (s.cpu.halt || s.cpu.stop) = true := Bool.or_eq_true_iff.mpr hwait.symm
  rw [awakeStep, if_neg (Bool.eq_false_iff.mp hd), if_pos hor] at h
  cases h
  exact takes_advanceM s

theorem takes_dispatching {s t : State} (hd : dispatches s = true) (h : awakeStep s = .next t) : Takes 4 s t := by
  rw [awakeStep, if_pos hd] at h
  cases h
  exact takes_dispatch s

theorem takes_running {s t : State} (hd : dispatches s = false) (hstop : s.cpu.stop = false) (hhalt : s.cpu.halt = false)
    (h : awakeStep s = .next t) : Takes ((encode s.nextInstr).length + s.nextInstr.cyclesAfterFetch s.cpu.f) s t := by
  have hor : ¬ (s.cpu.halt || s.cpu.stop) = true := by rw [hstop, hhalt]; decide
  rw [awakeStep, if_neg (Bool.eq_false_iff.mp hd), if_neg hor, runInstr] at h
  cases hexec : exec (fetchInstr s).1 (fetchInstr s).2 with
  | next u =>
    rw [hexec] at h
    cases h
    exact takes_instruction _ hexec
  | fault r => rw [hexec] at h; cases h
  | refused r => rw [hexec] at h; cases h

/-- Settles O35 (log entries 4, 5): one branch for each kind of step; waking changes no input port. -/
theorem durationOfEveryStep : Obligations.DurationOfEveryStep := by
  intro s t hstep halt stop w takes
  refine ⟨fun hi => ?_, fun hi hh => ?_, fun hi hh => ?_⟩
  · cases hstep.symm.trans (step_frozen hi)
    exact Takes.of_inputs rfl
  · cases hstep.symm.trans (step_held hi hh)
    exact takes_hdmaStepM s
  · have hawake : awakeStep w = .next t := (step_awake hi hh).symm.trans hstep
    refine ⟨fun hwait => ?_, fun hstop hime hpending => ?_, fun hstop hhalt hnone => ?_⟩
    · exact takes_waiting (s := w) (not_dispatches_of_waiting hwait) hwait hawake
    · exact takes_dispatching (s := w) ((dispatches_iff w).mpr ⟨hstop, hime, hpending⟩) hawake
    · have hd : dispatches w = false := by
        rw [Bool.eq_false_iff, ne_eq, dispatches_iff]
        rintro ⟨-, hime, hpending⟩
        obtain h | h := hnone
        · exact Bool.false_ne_true (h.symm.trans hime)
        · exact hpending h
      exact takes_running (s := w) hd hstop hhalt hawake

end Machine

end Sys2Proof
end

section
/-! SUPPORT. The round trip of 30_encoding.md R160 to R182: `decode` after `encode` from the lemmas of
Sys2Proof/Laws/PerInstr.lean, `encode` after `decode` from the bytes the encoder gives for an instruction read. Settles
`Obligations.DecodeOfEncodeIsIdentity`, `Obligations.EncodeOfDecodeIsIdentity`, `Obligations.LengthFromOpcodeAlone` and
`Obligations.SpecWordsDecode`. -/
namespace Sys2Proof

namespace Laws.RoundTrip

/-- The round trip of every instruction: one lemma per constructor, in the order of the constructors. -/
theorem statement_of_every_instr (i : Instr) : Statement i :=
  Instr.rec (motive := Statement)
    ld_BC_nn ld_B_n ld_mnn_SP ld_C_n stop ld_DE_nn ld_D_n jr_e ld_E_n jr_NZ_e ld_HL_nn ld_H_n jr_Z_e ld_L_n jr_NC_e
    ld_SP_nn ld_mHL_n jr_C_e ld_A_n jp_NZ_nn jp_nn call_NZ_nn add_A_n jp_Z_nn call_Z_nn call_nn adc_A_n jp_NC_nn
    call_NC_nn sub_A_n jp_C_nn call_C_nn sbc_A_n ldh_mn_A and_A_n add_SP_e ld_mnn_A xor_A_n ldh_A_mn or_A_n
    ld_HL_SPe ld_A_mnn cp_A_n nop ld_mBC_A inc_BC inc_B dec_B rlca add_HL_BC ld_A_mBC dec_BC inc_C dec_C rrca
    ld_mDE_A inc_DE inc_D dec_D rla add_HL_DE ld_A_mDE dec_DE inc_E dec_E rra ld_mHLinc_A inc_HL inc_H dec_H daa
    add_HL_HL ld_A_mHLinc dec_HL inc_L dec_L cpl ld_mHLdec_A inc_SP inc_mHL dec_mHL scf add_HL_SP ld_A_mHLdec dec_SP
    inc_A dec_A ccf ld_B_B ld_B_C ld_B_D ld_B_E ld_B_H ld_B_L ld_B_mHL ld_B_A ld_C_B ld_C_C ld_C_D ld_C_E ld_C_H
    ld_C_L ld_C_mHL ld_C_A ld_D_B ld_D_C ld_D_D ld_D_E ld_D_H ld_D_L ld_D_mHL ld_D_A ld_E_B ld_E_C ld_E_D ld_E_E
    ld_E_H ld_E_L ld_E_mHL ld_E_A ld_H_B ld_H_C ld_H_D ld_H_E ld_H_H ld_H_L ld_H_mHL ld_H_A ld_L_B ld_L_C ld_L_D
    ld_L_E ld_L_H ld_L_L ld_L_mHL ld_L_A ld_mHL_B ld_mHL_C ld_mHL_D ld_mHL_E ld_mHL_H ld_mHL_L halt ld_mHL_A ld_A_B
    ld_A_C ld_A_D ld_A_E ld_A_H ld_A_L ld_A_mHL ld_A_A add_A_B add_A_C add_A_D add_A_E add_A_H add_A_L add_A_mHL
    add_A_A adc_A_B adc_A_C adc_A_D adc_A_E adc_A_H adc_A_L adc_A_mHL adc_A_A sub_A_B sub_A_C sub_A_D sub_A_E
    sub_A_H sub_A_L sub_A_mHL sub_A_A sbc_A_B sbc_A_C sbc_A_D sbc_A_E sbc_A_H sbc_A_L sbc_A_mHL sbc_A_A and_A_B
    and_A_C and_A_D and_A_E and_A_H and_A_L and_A_mHL and_A_A xor_A_B xor_A_C xor_A_D xor_A_E xor_A_H xor_A_L
    xor_A_mHL xor_A_A or_A_B or_A_C or_A_D or_A_E or_A_H or_A_L or_A_mHL or_A_A cp_A_B cp_A_C cp_A_D cp_A_E cp_A_H
    cp_A_L cp_A_mHL cp_A_A ret_NZ pop_BC push_BC rst_00 ret_Z ret prefixCB rst_08 ret_NC pop_DE illegal_D3 push_DE
    rst_10 ret_C reti illegal_DB illegal_DD rst_18 pop_HL ldh_mC_A illegal_E3 illegal_E4 push_HL rst_20 jp_HL
    illegal_EB illegal_EC illegal_ED rst_28 pop_AF ldh_A_mC di illegal_F4 push_AF rst_30 ld_SP_HL ei illegal_FC
    illegal_FD rst_38 rlc_B rlc_C rlc_D rlc_E rlc_H rlc_L rlc_mHL rlc_A rrc_B rrc_C rrc_D rrc_E rrc_H rrc_L rrc_mHL
    rrc_A rl_B rl_C rl_D rl_E rl_H rl_L rl_mHL rl_A rr_B rr_C rr_D rr_E rr_H rr_L rr_mHL rr_A sla_B sla_C sla_D
    sla_E sla_H sla_L sla_mHL sla_A sra_B sra_C sra_D sra_E sra_H sra_L sra_mHL sra_A swap_B swap_C swap_D swap_E
    swap_H swap_L swap_mHL swap_A srl_B srl_C srl_D srl_E srl_H srl_L srl_mHL srl_A bit_0_B bit_0_C bit_0_D bit_0_E
    bit_0_H bit_0_L bit_0_mHL bit_0_A bit_1_B bit_1_C bit_1_D bit_1_E bit_1_H bit_1_L bit_1_mHL bit_1_A bit_2_B
    bit_2_C bit_2_D bit_2_E bit_2_H bit_2_L bit_2_mHL bit_2_A bit_3_B bit_3_C bit_3_D bit_3_E bit_3_H bit_3_L
    bit_3_mHL bit_3_A bit_4_B bit_4_C bit_4_D bit_4_E bit_4_H bit_4_L bit_4_mHL bit_4_A bit_5_B bit_5_C bit_5_D
    bit_5_E bit_5_H bit_5_L bit_5_mHL bit_5_A bit_6_B bit_6_C bit_6_D bit_6_E bit_6_H bit_6_L bit_6_mHL bit_6_A
    bit_7_B bit_7_C bit_7_D bit_7_E bit_7_H bit_7_L bit_7_mHL bit_7_A res_0_B res_0_C res_0_D res_0_E res_0_H
    res_0_L res_0_mHL res_0_A res_1_B res_1_C res_1_D res_1_E res_1_H res_1_L res_1_mHL res_1_A res_2_B res_2_C
    res_2_D res_2_E res_2_H res_2_L res_2_mHL res_2_A res_3_B res_3_C res_3_D res_3_E res_3_H res_3_L res_3_mHL
    res_3_A res_4_B res_4_C res_4_D res_4_E res_4_H res_4_L res_4_mHL res_4_A res_5_B res_5_C res_5_D res_5_E
    res_5_H res_5_L res_5_mHL res_5_A res_6_B res_6_C res_6_D res_6_E res_6_H res_6_L res_6_mHL res_6_A res_7_B
    res_7_C res_7_D res_7_E res_7_H res_7_L res_7_mHL res_7_A set_0_B set_0_C set_0_D set_0_E set_0_H set_0_L
    set_0_mHL set_0_A set_1_B set_1_C set_1_D set_1_E set_1_H set_1_L set_1_mHL set_1_A set_2_B set_2_C set_2_D
    set_2_E set_2_H set_2_L set_2_mHL set_2_A set_3_B set_3_C set_3_D set_3_E set_3_H set_3_L set_3_mHL set_3_A
    set_4_B set_4_C set_4_D set_4_E set_4_H set_4_L set_4_mHL set_4_A set_5_B set_5_C set_5_D set_5_E set_5_H
    set_5_L set_5_mHL set_5_A set_6_B set_6_C set_6_D set_6_E set_6_H set_6_L set_6_mHL set_6_A set_7_B set_7_C
    set_7_D set_7_E set_7_H set_7_L set_7_mHL set_7_A i

end Laws.RoundTrip

/-- Settles O2: the form in which the lemmas per constructor state it. -/
theorem decodeOfEncodeIsIdentity : Obligations.DecodeOfEncodeIsIdentity :=
  fun i rest hwf => Laws.RoundTrip.statement_of_every_instr i hwf rest

/-- Settles O1: the decoder evaluates on each of the words. -/
theorem specWordsDecode : Obligations.SpecWordsDecode :=
  ⟨rfl, rfl, rfl, rfl, rfl, rfl, rfl, rfl, rfl, rfl, rfl, rfl, rfl, rfl, rfl, rfl, rfl, rfl, rfl⟩

/-! ### The bytes of the instruction read -/

theorem cons_le16_pair (op n1 n2 : Byte) : op :: le16 (pair n2 n1) = [op, n1, n2] := by simp [le16]

theorem encode_decodePrefixed (op2 : Byte) : encode (decodePrefixed op2) = [0xCB#8, op2] := by
  revert op2; decide

/-- The operand bytes of an instruction stand behind its opcode as they were read, as many as its length asks for. -/
def OperandsFollow (f : Byte → Byte → Instr) : Prop :=
  ∀ n1 n2, encode (f n1 n2) = (encode (f 0#8 0#8)).take 1 ++ [n1, n2].take ((encode (f 0#8 0#8)).length - 1)

theorem operandsFollow_decodeX0 (y z : Oct) : OperandsFollow fun n1 n2 => decodeX0 y z n1 (pair n2 n1) := by
  intro n1 n2
  cases z <;> cases y <;> first | rfl | exact cons_le16_pair _ n1 n2

theorem operandsFollow_decodeX1 (y z : Oct) : OperandsFollow fun _ _ => decodeX1 y z := by
  intro _ _; cases z <;> cases y <;> rfl

theorem operandsFollow_decodeX2 (y z : Oct) : OperandsFollow fun _ _ => decodeX2 y z := by
  intro _ _; cases z <;> cases y <;> rfl

theorem operandsFollow_decodeX3 (y z : Oct) : OperandsFollow fun n1 n2 => decodeX3 y z n1 (pair n2 n1) := by
  intro n1 n2
  have hprefixed := encode_decodePrefixed n1
  cases z <;> cases y <;> first | exact hprefixed | rfl | exact cons_le16_pair _ n1 n2

theorem operandsFollow_decodeInstr (op : Byte) : OperandsFollow (decodeInstr op) := by
  intro n1 n2
  unfold decodeInstr
  split
  · exact operandsFollow_decodeX0 _ _ n1 n2
  · exact operandsFollow_decodeX1 _ _ n1 n2
  · exact operandsFollow_decodeX2 _ _ n1 n2
  · exact operandsFollow_decodeX3 _ _ n1 n2

/-- The encoder gives the opcode its value of the tables (30_encoding.md R171 to R177). -/
theorem encode_decodeInstr_opcode (op : Byte) : (encode (decodeInstr op 0#8 0#8)).take 1 = [op] := by
  revert op; decide

/-- An instruction read is encoded by the bytes it was read from. -/
theorem encode_decodeInstr (op n1 n2 : Byte) : encode (decodeInstr op n1 n2) = [op, n1, n2].take (opLength op) := by
  rw [operandsFollow_decodeInstr, encode_decodeInstr_opcode, decodeInstr_length]
  obtain h | h | h := opLength_cases op <;> rw [h] <;> rfl

theorem encode_decodeInstr_head? (op n1 n2 : Byte) : (encode (decodeInstr op n1 n2)).head? = some op := by
  rw [encode_decodeInstr]
  obtain h | h | h := opLength_cases op <;> rw [h] <;> rfl

/-- Settles O4: the two lists of R179 are those of `opLength`. -/
theorem lengthFromOpcodeAlone : Obligations.LengthFromOpcodeAlone := by
  intro op n1 n2
  rw [decodeInstr_length, opLength]
  simp only [List.contains_iff_mem]
  rfl

/-! ### The bytes that `decode` consumes -/

/-- Everything `decode` can answer: an instruction from as many bytes as its opcode asks for, or the row
PREFIX CB from its byte alone (log entry 6). -/
theorem decode_cases {bytes rest : List Byte} {i : Instr} (h : decode bytes = .ok (i, rest)) :
    (∃ op n1 n2, bytes = [op, n1, n2].take (opLength op) ++ rest ∧ i = decodeInstr op n1 n2) ∨
    (bytes = 0xCB#8 :: rest ∧ i = .prefixCB) := by
  unfold decode at h
  split at h
  · cases h
  · rename_i op tail
    split at h
    · rename_i hlen
      cases h
      exact .inl ⟨op, 0, 0, by rw [hlen]; rfl, rfl⟩
    · rename_i n1 tail hlen
      cases h
      exact .inl ⟨op, n1, 0, by rw [hlen]; rfl, rfl⟩
    · rename_i n1 n2 tail hlen
      cases h
      exact .inl ⟨op, n1, n2, by rw [hlen]; rfl, rfl⟩
    · split at h
      · rename_i hop
        cases h
        exact .inr ⟨by rw [hop], rfl⟩
      · cases h

/-- Settles O3: what `decode` consumes is what `encode` gives for the instruction read. -/
theorem encodeOfDecodeIsIdentity : Obligations.EncodeOfDecodeIsIdentity := by
  intro bytes rest i h
  obtain ⟨op, n1, n2, hbytes, rfl⟩ | ⟨hbytes, rfl⟩ := decode_cases h
  · rw [encode_decodeInstr, hbytes]
  · exact hbytes.symm

/-- With three bytes to read no operand is missing. -/
theorem decode_three (op n1 n2 : Byte) :
    decode [op, n1, n2] = .ok (decodeInstr op n1 n2, [op, n1, n2].drop (opLength op)) := by
  unfold decode
  dsimp only
  obtain h | h | h := opLength_cases op
  · have hi : decodeInstr op 0#8 0#8 = decodeInstr op n1 n2 := decodeInstr_congr (by omega) (by omega)
    rw [h, ← hi]; rfl
  · have hi : decodeInstr op n1 0#8 = decodeInstr op n1 n2 := decodeInstr_congr (fun _ => rfl) (by omega)
    rw [h, ← hi]; rfl
  · rw [h]; rfl

end Sys2Proof
end

section
/-! SUPPORT. What a step does with the bytes at `pc` (60_exceptions.md R400, R401; 46_system_control.md R345, R346): it runs
the instruction they decode to; an undefined opcode freezes the machine; `PREFIX CB` runs what its second byte selects.
Settles `Obligations.StepRunsDecodedInstruction`, `Obligations.UndefinedOpcodesFreeze` and
`Obligations.PrefixRunsSelectedInstruction`. -/
namespace Sys2Proof

/-! ### The undefined opcodes -/

/-- The eleven opcodes of R177. -/
def undefinedOpcodes : List Nat := [0xD3, 0xDB, 0xDD, 0xE3, 0xE4, 0xEB, 0xEC, 0xED, 0xF4, 0xFC, 0xFD]

theorem encode_of_isIllegal {i : Instr} (h : i.isIllegal = true) :
    ∃ op : Byte, encode i = [op] ∧ op.toNat ∈ undefinedOpcodes := by
  cases i <;> first | exact Bool.noConfusion h | exact ⟨_, rfl, by decide⟩

theorem decode_of_undefinedOpcode :
    ∀ op : Byte, op.toNat ∈ undefinedOpcodes → opLength op = 1 ∧ (decodeInstr op 0#8 0#8).isIllegal = true := by
  decide

theorem decodeInstr_isIllegal_iff (op n1 n2 : Byte) :
    (decodeInstr op n1 n2).isIllegal = true ↔ op.toNat ∈ undefinedOpcodes where
  mp h := by
    obtain ⟨op', hencode, hmem⟩ := encode_of_isIllegal h
    have hhead := encode_decodeInstr_head? op n1 n2
    rw [hencode] at hhead
    cases hhead
    exact hmem
  mpr h := by
    obtain ⟨hlen, hillegal⟩ := decode_of_undefinedOpcode op h
    rw [decodeInstr_congr (m1 := 0#8) (m2 := 0#8) (by omega) (by omega), hillegal]

theorem decodePrefixed_isIllegal (op2 : Byte) : (decodePrefixed op2).isIllegal = false := by
  revert op2; decide

namespace Machine

/-- Exactly the undefined opcodes set `illegal`. -/
theorem exec_cpu_illegal {i : Instr} {s t : State} (w : i.wellFormed = true) (h : exec i s = .next t) :
    t.cpu.illegal = (s.cpu.illegal || i.isIllegal) := by
  cases hi : i.isIllegal with
  | true =>
    rw [exec_illegal i hi] at h
    cases h
    exact (Bool.or_true _).symm
  | false => rw [Bool.or_false, (exec_controlFrame w h).illegal hi]

theorem delayedEnable_of_illegal (p : Bool) {s : State} (h : s.cpu.illegal = true) : delayedEnable p s = s := by
  rw [delayedEnable, h, Bool.not_true, Bool.and_false]
  rfl

/-! ### The step that is an instruction -/

section
variable {s : State} (hs : s.RunsInstr)
include hs

theorem wake_of_runsInstr : wakeStop (wakeHalt s) = s := by
  have hhalt : wakeHalt s = s := by unfold wakeHalt; rw [hs.notHalted]; exact congrArg s.setHalt hs.notHalted.symm
  rw [hhalt]
  unfold wakeStop; rw [hs.notStopped]; exact congrArg s.setStop hs.notStopped.symm

theorem not_dispatches_of_runsInstr : dispatches s = false := by
  rw [Bool.eq_false_iff, ne_eq, dispatches_iff]
  rintro ⟨-, hime, hpending⟩
  obtain h | h := hs.noInterrupt
  · exact Bool.false_ne_true (h.symm.trans hime)
  · exact hpending h

theorem step_of_runsInstr : step s = runInstr s := by
  rw [step_awake hs.notFrozen hs.notHeld, wake_of_runsInstr hs, awakeStep, not_dispatches_of_runsInstr hs, hs.notHalted,
    hs.notStopped]
  rfl

/-- What the instruction at `pc` answers after its fetch, the step answers, with the delayed enable of `EI` (R401). -/
theorem step_of_exec {t : State} (h : exec s.nextInstr (s.afterFetch (encode s.nextInstr).length) = .next t) :
    step s = .next (delayedEnable s.cpu.imePending t) := by
  rw [step_of_runsInstr hs, runInstr, fetchInstr_eq, h]

end

/-- Settles O7 (log entries 5, 20): of the instructions the undefined ones alone set `illegal`, which holds back the delayed
enable. -/
theorem stepRunsDecodedInstruction : Obligations.StepRunsDecodedInstruction := by
  intro s i rest hs h
  rw [decode_three] at h
  have hi : s.nextInstr = i := (Prod.mk.inj (Except.ok.inj h)).1
  subst hi
  refine ⟨rfl, ?_⟩
  have hwf : s.nextInstr.wellFormed = true := decodeInstr_wellFormed ..
  obtain ⟨t, ht, -⟩ := exec_framed s.nextInstr hwf (s.afterFetch (encode s.nextInstr).length)
  have hillegal : t.cpu.illegal = s.nextInstr.isIllegal := by
    rw [exec_cpu_illegal hwf ht, State.afterFetch, State.setPc_cpu_illegal, passM_cpu, hs.notFrozen, Bool.false_or]
  rw [step_of_exec hs ht, ht, delayedEnable, hillegal]
  simp only [Bool.and_eq_true, Bool.not_eq_true', and_assoc]
  rfl

/-- The step of an undefined opcode: its fetch, and `illegal` (R346, R402). -/
theorem step_of_nextInstr_isIllegal {s : State} (hs : s.RunsInstr) (h : s.nextInstr.isIllegal = true) :
    step s = .next (raiseIllegal (s.afterFetch 1)) := by
  obtain ⟨op, hencode, -⟩ := encode_of_isIllegal h
  rw [step_of_exec hs (exec_illegal _ h _), delayedEnable_of_illegal _ rfl, hencode]
  rfl

/-- Settles O5 (log entry 20): an undefined opcode is one byte long, and its step is the fetch of it and `illegal`. -/
theorem undefinedOpcodesFreeze : Obligations.UndefinedOpcodesFreeze := by
  refine ⟨decodeInstr_isIllegal_iff, fun i s h => exec_illegal i h s, fun s hs h => ?_, fun s h => step_frozen h⟩
  rw [step_of_nextInstr_isIllegal hs h, raiseIllegal, State.afterFetch, State.setPc, passM_cpu]
  rfl

/-! ### PREFIX CB -/

/-- The sixteen rows of the prefixed map, as instructions (30_encoding.md R176). -/
def prefixedInstrs : List (List Instr) :=
  (List.range 16).map fun hi => (List.range 16).map fun lo => decodePrefixed (BitVec.ofNat 8 (16 * hi + lo))

theorem prefixedRows_eq : prefixedRows = prefixedInstrs.map (·.map exec) := rfl

theorem decodePrefixed_eq (op2 : Byte) :
    decodePrefixed op2 = (prefixedInstrs.getD (op2.toNat / 16) []).getD (op2.toNat % 16) .rlc_B := by
  have hrow : op2.toNat / 16 < 16 := by omega
  have hcol : op2.toNat % 16 < 16 := by omega
  simp [prefixedInstrs, hrow, hcol, Nat.div_add_mod]

/-- The meaning that PREFIX CB looks up is that of the instruction the second byte decodes to. -/
theorem execPrefixed_eq (op2 : Byte) : execPrefixed op2 = exec (decodePrefixed op2) := by
  rw [decodePrefixed_eq, ← List.getD_map (f := exec), ← List.getD_map (f := List.map exec), ← prefixedRows_eq]
  rfl

/-- Settles O6: the rows that PREFIX CB looks up are the decoder's. -/
theorem prefixRunsSelectedInstruction : Obligations.PrefixRunsSelectedInstruction := by
  refine ⟨fun s => ?_, fun op2 n => ⟨rfl, decodePrefixed_isIllegal op2⟩⟩
  obtain ⟨t, ht, -⟩ := exec_framed _ (decodePrefixed_wellFormed (fetch8 s).1) (fetch8 s).2
  exact ⟨t, by rw [exec_prefixCB, execPrefixed_eq, ht], ht⟩

end Machine

end Sys2Proof
end

section
/-! SUPPORT. The 8-bit loads (40_load8.md R201 to R219): what each of their operations answers, by the effect of each
instruction in `exec_<family>`. Settles `Obligations.LoadRegisterForms`, `Obligations.LoadFromMemoryForms` and
`Obligations.StoreForms`. -/
namespace Sys2Proof.Machine

/-! ### Writing a register -/

theorem Cpu.get8_set8_eq_ite (c : Cpu) (r q : R8) (v : Byte) : (c.set8 r v).get8 q = if q = r then v else c.get8 q := by
  split
  next h => rw [h, Cpu.get8_set8]
  next h => exact Cpu.get8_set8_of_ne c r q v h

/-- The registers of R164 are neither F, `sp`, `pc` nor a control flag. -/
theorem Cpu.set8_frame (c : Cpu) (r : R8) (v : Byte) : (c.set8 r v).f = c.f ∧ (c.set8 r v).sp = c.sp ∧
    (c.set8 r v).pc = c.pc ∧ (c.set8 r v).ime = c.ime ∧ (c.set8 r v).imePending = c.imePending ∧
    (c.set8 r v).halt = c.halt ∧ (c.set8 r v).stop = c.stop ∧ (c.set8 r v).illegal = c.illegal := by
  cases r <;> exact ⟨rfl, rfl, rfl, rfl, rfl, rfl, rfl, rfl⟩

/-- Settles O13: `LD r,r'` and `LD r,n` are one write of a register, whose frame is that of `set8`. -/
theorem loadRegisterForms : Obligations.LoadRegisterForms :=
  ⟨exec_ldRR, exec_ldRN, Cpu.get8_set8_eq_ite, Cpu.set8_frame⟩

/-! ### Loads and stores -/

/-- The M-cycle of the read leaves the CPU alone, so the other registers are those before it. -/
theorem opLdRM_eq (r : R8) (s : State) :
    opLdRM r s = { advanceM s with cpu := s.cpu.set8 r (busRead s s.cpu.hl) } := by
  rw [opLdRM, readHL, State.set8, memRead_cpu, memRead_val, memRead]

/-- The read of `opLdA` is before its M-cycle (R103). -/
theorem opLdA_eq (a : Word) (s : State) : opLdA a s = (advanceM s).setA (busRead s a) := rfl

/-- The write of `opStA` is before its M-cycle (R104). -/
theorem opStA_eq (a : Word) (s : State) : opStA a s = advanceM (busWrite s a s.cpu.a) := rfl

/-- Settles O14: but for `LD r,(HL)` every load is `opLdA` at its address. -/
theorem loadFromMemoryForms : Obligations.LoadFromMemoryForms := by
  intro s load
  have hload (a : Word) : opLdA a s = load a := opLdA_eq a s
  refine ⟨fun r => ?ldRM, ?mBC, ?mDE, fun nn => ?mnn, ?mC, fun n => ?mn, ?mHLinc, ?mHLdec⟩
  case ldRM => rw [exec_ldRM, opLdRM_eq]
  case mBC => rw [exec_ld_A_mBC, hload, Cpu.bc]
  case mDE => rw [exec_ld_A_mDE, hload, Cpu.de]
  case mnn => rw [exec_ld_A_mnn, hload]
  case mC => rw [exec_ldh_A_mC, hload, highPage_eq]
  case mn => rw [exec_ldh_A_mn, hload, highPage_eq]
  case mHLinc => rw [exec_ld_A_mHLinc, hload]
  case mHLdec => rw [exec_ld_A_mHLdec, hload]

/-- Settles O15: every store of A is `opStA` at its address; the others are the write at `HL`. -/
theorem storeForms : Obligations.StoreForms := by
  intro s store
  have hstore (a : Word) : opStA a s = store a s.cpu.a := opStA_eq a s
  refine ⟨fun r => exec_ldMR r s, fun n => exec_ld_mHL_n n s, ?mBC, ?mDE, fun nn => ?mnn, ?mC, fun n => ?mn, ?mHLinc,
    ?mHLdec⟩
  case mBC => rw [exec_ld_mBC_A, hstore, Cpu.bc]
  case mDE => rw [exec_ld_mDE_A, hstore, Cpu.de]
  case mnn => rw [exec_ld_mnn_A, hstore]
  case mC => rw [exec_ldh_mC_A, hstore, highPage_eq]
  case mn => rw [exec_ldh_mn_A, hstore, highPage_eq]
  case mHLinc => rw [exec_ld_mHLinc_A, hstore]
  case mHLdec => rw [exec_ld_mHLdec_A, hstore]

end Sys2Proof.Machine
end

section
/-! SUPPORT. The 16-bit loads (41_load16_stack.md R231 to R234; 43_alu16.md R284): the pairs that a write of one pair leaves
alone, and the operations with their idle M-cycle before the writes of registers. Settles `Obligations.Load16Forms`. -/
namespace Sys2Proof.Machine

/-- No two pairs share a register (R21, R165). -/
theorem Cpu.get16_set16_of_ne (c : Cpu) (r q : R16) (v : Word) (h : q ≠ r) : (c.set16 r v).get16 q = c.get16 q := by
  cases r <;> cases q
  case BC.BC | DE.DE | HL.HL | SP.SP => exact absurd rfl h
  all_goals rfl

/-- The flags of `AddSpE` (R284) in unsigned numbers; the result takes the displacement as signed. -/
theorem addSpE_eq (w : Word) (e : Byte) : addSpE w e =
    (w + e.signExtend 16,
      ⟨false, false, decide (w.toNat % 16 + e.toNat % 16 > 15), decide (w.toNat % 256 + e.toNat > 255)⟩) := by
  rw [addSpE, sext16_eq, lowNibble]

/-- The idle M-cycle of R234 does not read the registers that the load writes. -/
theorem opLdHlSpE_eq (e : Byte) (s : State) : opLdHlSpE e s =
    ((advanceM s).setHl (addSpE s.cpu.sp e).1).setF (addSpE s.cpu.sp e).2 := by
  rw [opLdHlSpE, idleM, advanceM_setF, advanceM_setHl]

/-- Settles O16: each load is its writes of registers or bytes, with the idle M-cycle moved before the former. -/
theorem load16Forms : Obligations.Load16Forms := by
  intro s
  refine ⟨fun rr nn => ?ldRRnn, ?ldSpHl, fun nn => ?ldMnnSp, fun e => ?ldHlSpE⟩
  case ldRRnn =>
    exact ⟨s.set16 rr nn, exec_ldRRnn rr nn s, rfl, Cpu.get16_set16 s.cpu rr nn,
      fun qq => Cpu.get16_set16_of_ne s.cpu rr qq nn⟩
  case ldSpHl => rw [exec_ld_SP_HL, idleM, advanceM_setSp]
  case ldMnnSp => rw [exec_ld_mnn_SP, opStSp]
  case ldHlSpE => rw [exec_ld_HL_SPe, opLdHlSpE_eq, addSpE_eq]

end Sys2Proof.Machine
end

section
/-! SUPPORT. 8-bit arithmetic and logic (42_alu8.md R251 to R268): the results and flags in the terms of the rules, and the
three source forms of the eight operations on A. Settles `Obligations.AddAndAddWithCarry`,
`Obligations.SubtractAndCompare`, `Obligations.LogicalOperations`, `Obligations.IncrementAndDecrement`,
`Obligations.AccumulatorAdjustments` and `Obligations.DecimalAdjustIsBcdArithmetic`. -/
namespace Sys2Proof.Machine

/-! ### Results and flags in the terms of the rules -/

theorem ofNat8_beq_zero (n : Nat) : (BitVec.ofNat 8 n == 0#8) = decide (n % 256 = 0) := by
  rw [Bool.eq_iff_iff, beq_iff_eq, decide_eq_true_iff, ← BitVec.toNat_inj, BitVec.toNat_ofNat]
  rfl

/-- The flags of an addition in the exact sum (R251, R253, R254). -/
theorem add8_addFlags (a b : Byte) (c : Bool) : (add8 a b c).addFlags =
    ⟨decide ((a.toNat + b.toNat + b2n c) % 256 = 0), false, decide (a.toNat % 16 + b.toNat % 16 + b2n c ≥ 16),
      decide (a.toNat + b.toNat + b2n c ≥ 256)⟩ :=
  congrArg (Flags.mk · _ _ _) (ofNat8_beq_zero _)

theorem ofInt8_sub_natCast (a : Byte) (n : Nat) : BitVec.ofInt 8 ((a.toNat : Int) - n) = a - BitVec.ofNat 8 n := by
  apply BitVec.eq_of_toNat_eq
  rw [BitVec.toNat_ofInt, BitVec.toNat_sub, BitVec.toNat_ofNat]
  omega

theorem sub8_res (a b : Byte) (c : Bool) : (sub8 a b c).res = a - b - (if c then 1#8 else 0#8) := by
  have hexact : (sub8 a b c).res = a - BitVec.ofNat 8 (b.toNat + b2n c) := by
    rw [← ofInt8_sub_natCast, Int.natCast_add, ← Int.sub_sub]
    rfl
  rw [hexact, BitVec.ofNat_add, BitVec.ofNat_toNat, BitVec.setWidth_eq, BitVec.sub_sub]
  cases c <;> rfl

/-- The exact difference is negative when the subtrahend, with the borrow, is greater (R251). -/
theorem sub_neg_eq_lt (a b n : Nat) : decide ((a : Int) - b - n < 0) = decide (a < b + n) :=
  decide_eq_decide.mpr (by omega)

/-- The flags of a subtraction in the borrows of the comparison (R251, R255, R256). -/
theorem sub8_subFlags (a b : Byte) (c : Bool) : (sub8 a b c).subFlags =
    ⟨decide ((sub8 a b c).res = 0#8), true, decide (a.toNat % 16 < b.toNat % 16 + b2n c),
      decide (a.toNat < b.toNat + b2n c)⟩ :=
  congrArg₂ (Flags.mk _ true) (sub_neg_eq_lt _ _ _) (sub_neg_eq_lt _ _ _)

/-- A comparison finds equality (R260). -/
theorem sub8_false_res_eq_zero_iff (a b : Byte) : (sub8 a b false).res = 0#8 ↔ a = b := by
  rw [sub8_res, if_neg Bool.false_ne_true, BitVec.sub_zero]
  exact sub_eq_zero

/-! ### The three source forms (R252) -/

/-- The operation `op` on A gives `o` in each source form; `v` is the source byte, `u` the state after it is read. -/
structure AluForms (s u : State) (v : Byte) (op : AluOp) (o : Outcome) : Prop where
  reg : ∀ r : R8, u = s → v = s.cpu.get8 r → exec (.aluR op r) s = o
  mem : u = advanceM s → v = busRead s s.cpu.hl → exec (.aluM op) s = o
  imm : u = s → exec (.aluN op v) s = o

/-- Reading the source leaves the CPU alone, so A and the carry are those before it. -/
theorem aluForms_of_alu_eq {s u : State} {v : Byte} {op : AluOp} {a : Byte} {z n h c : Bool}
    (e : alu op s.cpu.a v s.cpu.f = (a, ⟨z, n, h, c⟩)) : AluForms s u v op (.next (u.setAF a z n h c)) := by
  have hop (hu : u.cpu = s.cpu) : opAlu op v u = u.setAF a z n h c := by rw [opAlu, hu, e]; rfl
  refine ⟨?reg, ?mem, ?imm⟩
  case reg => rintro r rfl rfl; rw [exec_aluR, ← hop rfl]; rfl
  case mem => rintro rfl rfl; rw [exec_aluM, ← hop (advanceM_cpu s)]; rfl
  case imm => rintro rfl; rw [exec_aluN, hop rfl]

/-- Settles O18: the flags of `Add8` in the exact sum, in each source form. -/
theorem addAndAddWithCarry : Obligations.AddAndAddWithCarry := by
  intro s u v sum next
  have add : AluForms s u v .add (next false) := aluForms_of_alu_eq (Prod.ext rfl (add8_addFlags s.cpu.a v false))
  have adc : AluForms s u v .adc (next s.cpu.f.c) := aluForms_of_alu_eq (Prod.ext rfl (add8_addFlags s.cpu.a v _))
  exact ⟨fun r hu hv => ⟨add.reg r hu hv, adc.reg r hu hv⟩, fun hu hv => ⟨add.mem hu hv, adc.mem hu hv⟩,
    fun hu => ⟨add.imm hu, adc.imm hu⟩⟩

/-- Settles O19: the result and the borrows of `Sub8`, in each source form; `CP` keeps A. -/
theorem subtractAndCompare : Obligations.SubtractAndCompare := by
  intro s u v borrow half dif next cmp
  have hres (c : Bool) : (sub8 s.cpu.a v c).res = dif c := sub8_res s.cpu.a v c
  have hflags (c : Bool) : (sub8 s.cpu.a v c).subFlags = ⟨decide (dif c = 0#8), true, half c, borrow c⟩ := by
    rw [sub8_subFlags, hres]
  have sub : AluForms s u v .sub (next false) := aluForms_of_alu_eq (Prod.ext (hres false) (hflags false))
  have sbc : AluForms s u v .sbc (next s.cpu.f.c) := aluForms_of_alu_eq (Prod.ext (hres _) (hflags _))
  have cp : AluForms s u v .cp cmp := aluForms_of_alu_eq (Prod.ext rfl (by
    simp only [alu, sub8_subFlags, sub8_false_res_eq_zero_iff]; rfl))
  exact ⟨fun r hu hv => ⟨sub.reg r hu hv, sbc.reg r hu hv, cp.reg r hu hv⟩,
    fun hu hv => ⟨sub.mem hu hv, sbc.mem hu hv, cp.mem hu hv⟩, fun hu => ⟨sub.imm hu, sbc.imm hu, cp.imm hu⟩⟩

/-- Settles O20: the operations of the model are bitwise, in each source form. -/
theorem logicalOperations : Obligations.LogicalOperations := by
  intro s u v next
  have and : AluForms s u v .and (next (s.cpu.a &&& v) true) := aluForms_of_alu_eq rfl
  have xor : AluForms s u v .xor (next (s.cpu.a ^^^ v) false) := aluForms_of_alu_eq rfl
  have or : AluForms s u v .or (next (s.cpu.a ||| v) false) := aluForms_of_alu_eq rfl
  exact ⟨fun r hu hv => ⟨and.reg r hu hv, xor.reg r hu hv, or.reg r hu hv⟩,
    fun hu hv => ⟨and.mem hu hv, xor.mem hu hv, or.mem hu hv⟩, fun hu => ⟨and.imm hu, xor.imm hu, or.imm hu⟩⟩

/-! ### INC and DEC -/

theorem inc8_eq (v : Byte) (f : Flags) :
    inc8 v f = (v + 1#8, ⟨decide (v = 0xFF#8), false, decide (v.toNat % 16 = 15), f.c⟩) := by
  have hz : (inc8 v f).2.z = decide (v = 0xFF#8) := by
    change ((inc8 v f).1 == 0#8) = _
    rw [inc8_res, Bool.eq_iff_iff, beq_iff_eq, decide_eq_true_iff]
    bv_omega
  have hh : (inc8 v f).2.h = decide (v.toNat % 16 = 15) := by
    change decide (v.toNat % 16 + 1 + 0 > 15) = _
    rw [decide_eq_decide]
    omega
  rw [← inc8_res v f, ← hz, ← hh]
  rfl

theorem dec8_eq (v : Byte) (f : Flags) :
    dec8 v f = (v - 1#8, ⟨decide (v = 0x01#8), true, decide (v.toNat % 16 = 0), f.c⟩) := by
  have hz : (dec8 v f).2.z = decide (v = 0x01#8) := by
    change ((dec8 v f).1 == 0#8) = _
    rw [dec8_res, Bool.eq_iff_iff, beq_iff_eq, decide_eq_true_iff]
    bv_omega
  have hh : (dec8 v f).2.h = decide (v.toNat % 16 = 0) := by
    change decide (((v.toNat % 16 : Nat) : Int) - 1 - 0 < 0) = _
    rw [decide_eq_decide]
    omega
  rw [← dec8_res v f, ← hz, ← hh]
  rfl

/-- Read, modify, write: the read and the write each with their M-cycle (R262, R264). -/
theorem opRmw_eq (op : Byte → Flags → Byte × Flags) (s : State) : opRmw op s =
    (memWrite (advanceM s) s.cpu.hl (op (busRead s s.cpu.hl) s.cpu.f).1).setF
      (op (busRead s s.cpu.hl) s.cpu.f).2 := by
  rw [opRmw, writeHL, readHL, memRead_cpu]
  rfl

/-- Settles O21: the results and flags of `inc8` and `dec8`, in a register and in the byte at `HL`. -/
theorem incrementAndDecrement : Obligations.IncrementAndDecrement := by
  intro s incF decF m
  refine ⟨fun r => ?incR, fun r => ?decR, ?incM, ?decM⟩
  case incR => rw [exec_incR, opIncR, inc8_eq]; rfl
  case decR => rw [exec_decR, opDecR, dec8_eq]; rfl
  case incM => rw [exec_inc_mHL, opRmw_eq, inc8_eq]
  case decM => rw [exec_dec_mHL, opRmw_eq, dec8_eq]

/-! ### DAA, CPL, SCF and CCF -/

/-- The correction of DAA as a byte (R265). -/
theorem ofNat_daaAdj (a : Byte) (f : Flags) : BitVec.ofNat 8 (daaAdj a f) =
    (if f.h || (!f.n && decide (a.toNat % 16 > 9)) then 0x06#8 else 0#8) +
    (if f.c || (!f.n && decide (a.toNat > 0x99)) then 0x60#8 else 0#8) := by
  rw [daaAdj, BitVec.ofNat_add, lowNibble]
  congr 1 <;> split <;> rfl

theorem daa_res (a : Byte) (f : Flags) : (daa a f).1 =
    if f.n then a - BitVec.ofNat 8 (daaAdj a f) else a + BitVec.ofNat 8 (daaAdj a f) := by
  rw [daa, ofInt8_sub_natCast, BitVec.ofNat_add, BitVec.ofNat_toNat, BitVec.setWidth_eq]

/-- Settles O22: DAA by its correction as a byte; the others are bitwise. -/
theorem accumulatorAdjustments : Obligations.AccumulatorAdjustments := by
  intro s a f lowFix highFix adj res
  have hdaa : daa a f = (res, ⟨decide (res = 0#8), f.n, false, highFix⟩) := by
    have hres : (daa a f).1 = res := by rw [daa_res, ofNat_daaAdj]
    rw [← hres]
    rfl
  refine ⟨?daa, ?cpl, rfl, rfl⟩
  case daa => rw [exec_daa, opOnA, hdaa]; rfl
  case cpl => rw [exec_cpl, opOnA, ← BitVec.xor_allOnes]; rfl

/-! ### Packed BCD -/

/-- The two decimal digits of `k` in a byte. -/
def bcd (k : Nat) : Byte := BitVec.ofNat 8 (k / 10 % 10 * 16 + k % 10)

theorem toNat_bcd {k : Nat} (h : k < 100) : (bcd k).toNat = k / 10 * 16 + k % 10 := by
  have htens : k / 10 < 10 := by omega
  rw [bcd, BitVec.toNat_ofNat, Nat.mod_eq_of_lt htens, Nat.mod_eq_of_lt (by omega)]

theorem add8_false_res_toNat (a b : Byte) : (add8 a b false).res.toNat = (a.toNat + b.toNat) % 256 :=
  BitVec.toNat_ofNat ..

/-- After ADD, DAA adds 0x06 when the exact sum of the low digits is no digit. -/
theorem add8_lowFix (a b : Byte) : ((add8 a b false).h || decide (lowNibble (add8 a b false).res > 9)) =
    decide (a.toNat % 16 + b.toNat % 16 > 9) := by
  rw [lowNibble, add8_false_res_toNat]
  change (decide (a.toNat % 16 + b.toNat % 16 + 0 > 15) || _) = _
  rw [← Bool.decide_or, decide_eq_decide]
  omega

/-- After ADD, DAA adds 0x60 when the exact sum is no number of two digits. -/
theorem add8_highFix (a b : Byte) : ((add8 a b false).cy || decide ((add8 a b false).res.toNat > 0x99)) =
    decide (a.toNat + b.toNat > 0x99) := by
  rw [add8_false_res_toNat]
  change (decide (a.toNat + b.toNat + 0 > 255) || _) = _
  rw [← Bool.decide_or, decide_eq_decide]
  omega

section
variable {x y : Nat} (hx : x < 100) (hy : y < 100)
include hx hy

/-- The flags of SUB are the decimal borrows of the two digits. -/
theorem sub8_bcd_subFlags : (sub8 (bcd x) (bcd y) false).subFlags =
    ⟨decide ((sub8 (bcd x) (bcd y) false).res = 0#8), true, decide (x % 10 < y % 10), decide (x < y)⟩ := by
  rw [sub8_subFlags, toNat_bcd hx, toNat_bcd hy]
  refine congrArg₂ (Flags.mk _ true) (decide_eq_decide.mpr ?half) (decide_eq_decide.mpr ?borrow)
  case half => change _ < _ + 0 ↔ _; omega
  case borrow => change _ < _ + 0 ↔ _; omega

theorem bcd_low_sum_iff : (bcd x).toNat % 16 + (bcd y).toNat % 16 > 9 ↔ x % 10 + y % 10 ≥ 10 := by
  rw [toNat_bcd hx, toNat_bcd hy]
  omega

theorem bcd_sum_iff : (bcd x).toNat + (bcd y).toNat > 0x99 ↔ x + y ≥ 100 := by
  rw [toNat_bcd hx, toNat_bcd hy]
  have htens : x / 10 + y / 10 ≤ 9 ∨ 10 ≤ x / 10 + y / 10 := by omega
  omega

/-- The decimal carries correct the binary sum to the decimal one. -/
theorem daa_add8_bcd : (daa (add8 (bcd x) (bcd y) false).res (add8 (bcd x) (bcd y) false).addFlags).1 =
    bcd ((x + y) % 100) := by
  have hadj : daaAdj (add8 (bcd x) (bcd y) false).res (add8 (bcd x) (bcd y) false).addFlags =
      (if x % 10 + y % 10 ≥ 10 then 0x06 else 0) + (if x + y ≥ 100 then 0x60 else 0) := by
    simp only [daaAdj, ArithRes.addFlags, Bool.not_false, Bool.true_and, add8_lowFix, add8_highFix, decide_eq_true_iff,
      bcd_low_sum_iff hx hy, bcd_sum_iff hx hy]
  apply BitVec.eq_of_toNat_eq
  rw [daa_res, hadj, if_neg (by exact Bool.false_ne_true), BitVec.toNat_add, BitVec.toNat_ofNat, add8_false_res_toNat,
    toNat_bcd hx, toNat_bcd hy, toNat_bcd (Nat.mod_lt _ (by decide))]
  split <;> split <;> omega

/-- The decimal borrows correct the binary difference to the decimal one. -/
theorem daa_sub8_bcd : (daa (sub8 (bcd x) (bcd y) false).res (sub8 (bcd x) (bcd y) false).subFlags).1 =
    bcd ((x + 100 - y) % 100) := by
  have hadj : daaAdj (sub8 (bcd x) (bcd y) false).res (sub8 (bcd x) (bcd y) false).subFlags =
      (if x % 10 < y % 10 then 0x06 else 0) + (if x < y then 0x60 else 0) := by
    simp only [daaAdj, sub8_bcd_subFlags hx hy, Bool.not_true, Bool.false_and, Bool.or_false, decide_eq_true_iff]
  have hres : (sub8 (bcd x) (bcd y) false).res = bcd x - bcd y := by
    rw [sub8_res, if_neg Bool.false_ne_true, BitVec.sub_zero]
  apply BitVec.eq_of_toNat_eq
  rw [daa_res, hadj, if_pos (by rfl), hres, BitVec.toNat_sub, BitVec.toNat_ofNat, BitVec.toNat_sub,
    toNat_bcd hx, toNat_bcd hy, toNat_bcd (Nat.mod_lt _ (by decide))]
  split <;> split <;> omega

end

/-- Settles O23: DAA corrects with the carries, respectively the borrows, of the two digits. -/
theorem decimalAdjustIsBcdArithmetic : Obligations.DecimalAdjustIsBcdArithmetic := by
  intro s x y hx hy ha
  refine ⟨⟨_, _, exec_aluN .add (bcd y) s, exec_daa _, ?addA, ?addC⟩,
    ⟨_, _, exec_aluN .sub (bcd y) s, exec_daa _, ?subA, ?subC⟩⟩
  case addA =>
    change (daa (add8 s.cpu.a (bcd y) false).res (add8 s.cpu.a (bcd y) false).addFlags).1 = _
    rw [ha]
    exact daa_add8_bcd hx hy
  case addC =>
    change (daa (add8 s.cpu.a (bcd y) false).res (add8 s.cpu.a (bcd y) false).addFlags).2.c = _
    rw [ha]
    exact (add8_highFix _ _).trans (decide_eq_decide.mpr (bcd_sum_iff hx hy))
  case subA =>
    change (daa (sub8 s.cpu.a (bcd y) false).res (sub8 s.cpu.a (bcd y) false).subFlags).1 = _
    rw [ha]
    exact daa_sub8_bcd hx hy
  case subC =>
    change (daa (sub8 s.cpu.a (bcd y) false).res (sub8 s.cpu.a (bcd y) false).subFlags).2.c = _
    rw [ha]
    exact (Bool.or_false _).trans (congrArg Flags.c (sub8_bcd_subFlags hx hy))

end Sys2Proof.Machine
end

section
/-! SUPPORT. The flag table (42_alu8.md R250): the row of an instruction is that of its opcode, what the operations do to the
flags with a forced or an unchanged entry, then one case per family. Settles `Obligations.FlagTable`. -/
namespace Sys2Proof

namespace Machine

/-! ### Rows -/

/-- What a row says of the flags before and after. -/
def FlagRow.holds (r : FlagRow) (f g : Flags) : Prop :=
  r.z.holds f.z g.z ∧ r.n.holds f.n g.n ∧ r.h.holds f.h g.h ∧ r.c.holds f.c g.c

/-- The row of the instructions that are not in the table. -/
def FlagRow.unlisted : FlagRow := ⟨.keep, .keep, .keep, .keep⟩

theorem FlagRow.unlisted_holds {f g : Flags} (h : g = f) : unlisted.holds f g := h ▸ ⟨rfl, rfl, rfl, rfl⟩

/-- Only behind 0xCB does the row depend on the second byte. -/
theorem flagRow_of_ne_0xCB {op : Nat} (h : op ≠ 0xCB) (m n : Nat) : flagRow op m = flagRow op n := by
  simp only [flagRow, h, false_and, if_false]

end Machine

open Machine

/-- The row of an instruction, by its first two bytes. -/
def Instr.flagRow (i : Instr) : FlagRow :=
  Machine.flagRow ((encode i).headD 0#8).toNat ((encode i).getD 1 0#8).toNat

theorem Instr.flagRow_of_opcode {i : Instr} {op : Byte} {rest : List Byte} {row : FlagRow} (he : encode i = op :: rest)
    (hop : op ≠ 0xCB#8 := by decide) (hrow : Machine.flagRow op.toNat 0 = row := by decide) : i.flagRow = row := by
  have hne : op.toNat ≠ 0xCB := fun e => hop (BitVec.eq_of_toNat_eq e)
  rw [Instr.flagRow, he, ← hrow]
  exact flagRow_of_ne_0xCB hne _ _

/-- An instruction of one byte does not begin with 0xCB, so the byte after it does not matter. -/
theorem decodeInstr_flagRow (op n1 n2 : Byte) :
    (decodeInstr op n1 n2).flagRow = Machine.flagRow op.toNat n1.toNat := by
  rw [Instr.flagRow, encode_decodeInstr]
  obtain h | h | h := opLength_cases op <;> rw [h]
  case inl =>
    have hop : op.toNat ≠ 0xCB := fun e => by
      rw [BitVec.eq_of_toNat_eq (y := 0xCB#8) e] at h
      exact absurd h (by decide)
    exact flagRow_of_ne_0xCB hop _ _
  all_goals rfl

namespace Machine

/-! ### The operations that set flags: no `*` entry is said anything of -/

/-- The rows of the eight operations on A (R253 to R260). -/
def aluFlagRow : AluOp → FlagRow
  | .add | .adc => ⟨.result, .zero, .result, .result⟩
  | .sub | .sbc | .cp => ⟨.result, .one, .result, .result⟩
  | .and => ⟨.result, .zero, .one, .zero⟩
  | .xor | .or => ⟨.result, .zero, .zero, .zero⟩

theorem alu_holds (op : AluOp) (a v : Byte) (f g : Flags) : (aluFlagRow op).holds f (alu op a v g).2 := by
  cases op with
  | add | adc | sub | sbc | cp => exact ⟨trivial, rfl, trivial, trivial⟩
  | and | xor | or => exact ⟨trivial, rfl, rfl, rfl⟩

/-- The rows of the prefixed rotates and shifts (R295 to R302). -/
def rotFlagRow : RotOp → FlagRow
  | .swap => ⟨.result, .zero, .zero, .zero⟩
  | _ => ⟨.result, .zero, .zero, .result⟩

theorem rotFlags_holds (op : RotOp) (v : Byte) (f g : Flags) : (rotFlagRow op).holds f (rotFlags op v g).2 := by
  cases op with
  | swap => exact ⟨trivial, rfl, rfl, rfl⟩
  | _ => exact ⟨trivial, rfl, rfl, trivial⟩

theorem rotAFlags_holds (op : RotOp) (v : Byte) (f g : Flags) :
    FlagRow.holds ⟨.zero, .zero, .zero, .result⟩ f (rotAFlags op v g).2 := ⟨rfl, rfl, rfl, trivial⟩

theorem inc8_holds (v : Byte) (f : Flags) : FlagRow.holds ⟨.result, .zero, .result, .keep⟩ f (inc8 v f).2 :=
  ⟨trivial, rfl, trivial, rfl⟩

theorem dec8_holds (v : Byte) (f : Flags) : FlagRow.holds ⟨.result, .one, .result, .keep⟩ f (dec8 v f).2 :=
  ⟨trivial, rfl, trivial, rfl⟩

theorem bitFlags_holds (v : Byte) (b : Nat) (f : Flags) :
    FlagRow.holds ⟨.result, .zero, .one, .keep⟩ f (bitFlags v b f) := ⟨trivial, rfl, rfl, rfl⟩

theorem add16_holds (v w : Word) (f : Flags) : FlagRow.holds ⟨.keep, .zero, .result, .result⟩ f (add16 v w f).2 :=
  ⟨rfl, rfl, trivial, trivial⟩

theorem addSpE_holds (v : Word) (e : Byte) (f : Flags) :
    FlagRow.holds ⟨.zero, .zero, .result, .result⟩ f (addSpE v e).2 := ⟨rfl, rfl, trivial, trivial⟩

/-! ### The operations that leave the flags alone -/

theorem modifyHL_f (s : State) (v : Byte) : (writeHL (readHL s).2 v).cpu.f = s.cpu.f :=
  congrArg Cpu.f ((memWrite_cpu ..).trans (memRead_cpu ..))

theorem opLdRM_f (r : R8) (s : State) : (opLdRM r s).cpu.f = s.cpu.f := by
  rw [opLdRM, State.set8_cpu_f, readHL, memRead_cpu]

theorem opLdA_f (a : Word) (s : State) : (opLdA a s).cpu.f = s.cpu.f := by
  rw [opLdA, State.setA_cpu_f, memRead_cpu]

theorem opStA_f (a : Word) (s : State) : (opStA a s).cpu.f = s.cpu.f := congrArg Cpu.f (memWrite_cpu s a _)

theorem opJump_f (nn : Word) (s : State) : (opJump nn s).cpu.f = s.cpu.f := by
  rw [opJump, idleM_cpu, State.setPc_cpu_f]

theorem opCall_f (nn : Word) (s : State) : (opCall nn s).cpu.f = s.cpu.f := by
  rw [opCall, State.setPc_cpu_f, push16_cpu, idleM_cpu]

theorem opRet_f (s : State) : (opRet s).cpu.f = s.cpu.f := by
  rw [opRet, idleM_cpu, State.setPc_cpu_f, pop16_cpu]

theorem opIf_f (cc : Cond) {op : State → State} {s : State} (h : (op s).cpu.f = s.cpu.f) :
    (opIf cc op s).cpu.f = s.cpu.f := by
  unfold opIf
  split
  · exact h
  · rfl

theorem opStop_f (s : State) : (opStop s).cpu.f = s.cpu.f := by
  unfold opStop
  split <;> rfl

/-! ### The families -/

/-- The instruction answers a next state with the flags that its row asks for. -/
def FollowsTable (i : Instr) : Prop := ∀ s, ∃ t, exec i s = .next t ∧ i.flagRow.holds s.cpu.f t.cpu.f

theorem followsTable_of_row {i : Instr} {op : State → State} {row : FlagRow} (hrow : i.flagRow = row)
    (he : ∀ s, exec i s = .next (op s)) (h : ∀ s, row.holds s.cpu.f (op s).cpu.f) : FollowsTable i :=
  fun s => ⟨_, he s, hrow ▸ h s⟩

theorem followsTable_of_unlisted {i : Instr} {op : State → State} (hrow : i.flagRow = .unlisted)
    (he : ∀ s, exec i s = .next (op s)) (h : ∀ s, (op s).cpu.f = s.cpu.f) : FollowsTable i :=
  followsTable_of_row hrow he fun s => FlagRow.unlisted_holds (h s)

/-- Of the pairs only AF holds the flags. -/
theorem followsTable_popRR (rr : R16Stk) : FollowsTable (Instr.popRR rr) := by
  have hpop (s : State) : (pop16 s).2.cpu.f = s.cpu.f := by rw [pop16_cpu]
  cases rr with
  | AF =>
    exact followsTable_of_row (row := ⟨.result, .result, .result, .result⟩) rfl (exec_popRR .AF)
      fun _ => ⟨trivial, trivial, trivial, trivial⟩
  | BC => exact followsTable_of_unlisted rfl (exec_popRR .BC) hpop
  | DE => exact followsTable_of_unlisted rfl (exec_popRR .DE) hpop
  | HL => exact followsTable_of_unlisted rfl (exec_popRR .HL) hpop

theorem followsTable_bitM (b : Oct) : FollowsTable (Instr.bitM b) :=
  followsTable_of_row (row := ⟨.result, .zero, .one, .keep⟩) (by cases b <;> rfl) (exec_bitM b) fun s => by
    have hread : (readHL s).2.cpu.f = s.cpu.f := congrArg Cpu.f (memRead_cpu ..)
    rw [opBitM, opBit, State.setF_cpu_f, hread]
    exact bitFlags_holds ..

theorem flagRow_of_undefinedOpcode : ∀ op ∈ undefinedOpcodes, op ≠ 0xCB ∧ flagRow op 0 = .unlisted := by
  decide

theorem followsTable_illegal (i : Instr) (hi : i.isIllegal = true) : FollowsTable i := by
  obtain ⟨op, he, hmem⟩ := encode_of_isIllegal hi
  obtain ⟨hne, hrow⟩ := flagRow_of_undefinedOpcode op.toNat hmem
  have hop : op ≠ 0xCB#8 := fun e => hne (congrArg BitVec.toNat e)
  exact followsTable_of_unlisted (Instr.flagRow_of_opcode he hop hrow) (exec_illegal i hi) fun _ => rfl

/-- Every whole instruction follows the table. -/
theorem exec_followsTable (i : Instr) : i.wellFormed = true → FollowsTable i :=
  Instr.byFamily (P := fun i => i.wellFormed = true → FollowsTable i)
    (ldRR := fun d r _ => followsTable_of_unlisted (by cases d <;> cases r <;> rfl) (exec_ldRR d r)
      fun s => State.set8_cpu_f s d _)
    (ldRN := fun r n _ => followsTable_of_unlisted (by cases r <;> exact Instr.flagRow_of_opcode rfl)
      (exec_ldRN r n) fun s => State.set8_cpu_f s r n)
    (ldRM := fun r _ => followsTable_of_unlisted (by cases r <;> rfl) (exec_ldRM r) (opLdRM_f r))
    (ldMR := fun r _ => followsTable_of_unlisted (by cases r <;> rfl) (exec_ldMR r)
      fun s => congrArg Cpu.f (memWrite_cpu s _ _))
    (ldRRnn := fun rr nn _ => followsTable_of_unlisted (by cases rr <;> exact Instr.flagRow_of_opcode rfl)
      (exec_ldRRnn rr nn) fun s => State.set16_cpu_f s rr nn)
    (pushRR := fun rr _ => followsTable_of_unlisted (by cases rr <;> rfl) (exec_pushRR rr)
      fun s => by rw [opPush, push16_cpu, idleM_cpu])
    (popRR := fun rr _ => followsTable_popRR rr)
    (aluR := fun op r _ => followsTable_of_row (row := aluFlagRow op) (by cases op <;> cases r <;> rfl) (exec_aluR op r)
      fun s => alu_holds op _ _ _ _)
    (aluM := fun op _ => followsTable_of_row (row := aluFlagRow op) (by cases op <;> rfl) (exec_aluM op)
      fun s => alu_holds op _ _ _ _)
    (aluN := fun op n _ => followsTable_of_row (row := aluFlagRow op) (by cases op <;> rfl) (exec_aluN op n)
      fun s => alu_holds op _ _ _ _)
    (incR := fun r _ => followsTable_of_row (by cases r <;> rfl) (exec_incR r) fun s => inc8_holds (s.get8 r) s.cpu.f)
    (decR := fun r _ => followsTable_of_row (by cases r <;> rfl) (exec_decR r) fun s => dec8_holds (s.get8 r) s.cpu.f)
    (addHLRR := fun rr _ => followsTable_of_row (by cases rr <;> rfl) (exec_addHLRR rr)
      fun s => by rw [opAddHl, idleM_cpu]; exact add16_holds _ _ s.cpu.f)
    (incRR := fun rr _ => followsTable_of_unlisted (by cases rr <;> rfl) (exec_incRR rr)
      fun s => by rw [idleM_cpu, State.set16_cpu_f])
    (decRR := fun rr _ => followsTable_of_unlisted (by cases rr <;> rfl) (exec_decRR rr)
      fun s => by rw [idleM_cpu, State.set16_cpu_f])
    (rotR := fun op r _ => followsTable_of_row (row := rotFlagRow op) (by cases op <;> cases r <;> rfl) (exec_rotR op r)
      fun s => rotFlags_holds op _ _ _)
    (rotM := fun op _ => followsTable_of_row (row := rotFlagRow op) (by cases op <;> rfl) (exec_rotM op)
      fun s => rotFlags_holds op _ _ _)
    (bitR := fun b r _ => followsTable_of_row (by cases b <;> cases r <;> rfl) (exec_bitR b r)
      fun s => bitFlags_holds (s.get8 r) b.toNat s.cpu.f)
    (bitM := fun b _ => followsTable_bitM b)
    (resR := fun b r _ => followsTable_of_unlisted (by cases b <;> cases r <;> rfl) (exec_resR b r)
      fun s => State.set8_cpu_f s r _)
    (resM := fun b _ => followsTable_of_unlisted (by cases b <;> rfl) (exec_resM b) fun s => modifyHL_f s _)
    (setR := fun b r _ => followsTable_of_unlisted (by cases b <;> cases r <;> rfl) (exec_setR b r)
      fun s => State.set8_cpu_f s r _)
    (setM := fun b _ => followsTable_of_unlisted (by cases b <;> rfl) (exec_setM b) fun s => modifyHL_f s _)
    (jpCC := fun cc nn _ => followsTable_of_unlisted (by cases cc <;> rfl) (exec_jpCC cc nn)
      fun s => opIf_f cc (opJump_f nn s))
    (jrCC := fun cc e _ => followsTable_of_unlisted (by cases cc <;> exact Instr.flagRow_of_opcode rfl)
      (exec_jrCC cc e) fun s => opIf_f cc (opJump_f _ s))
    (callCC := fun cc nn _ => followsTable_of_unlisted (by cases cc <;> rfl) (exec_callCC cc nn)
      fun s => opIf_f cc (opCall_f nn s))
    (retCC := fun cc _ => followsTable_of_unlisted (by cases cc <;> rfl) (exec_retCC cc)
      fun s => (opIf_f cc (opRet_f _)).trans (congrArg Cpu.f (idleM_cpu s)))
    (rst := fun y _ => followsTable_of_unlisted (by cases y <;> rfl) (exec_rst y) (opCall_f _))
    (nop := fun _ => followsTable_of_unlisted rfl exec_nop fun _ => rfl)
    (ld_mBC_A := fun _ => followsTable_of_unlisted rfl exec_ld_mBC_A fun s => opStA_f _ s)
    (rlca := fun _ => followsTable_of_row rfl exec_rlca fun s => rotAFlags_holds .rlc s.cpu.a _ _)
    (ld_mnn_SP := fun nn _ => followsTable_of_unlisted (Instr.flagRow_of_opcode rfl) (exec_ld_mnn_SP nn)
      fun s => by rw [opStSp, memWrite_cpu, memWrite_cpu])
    (ld_A_mBC := fun _ => followsTable_of_unlisted rfl exec_ld_A_mBC fun s => opLdA_f _ s)
    (rrca := fun _ => followsTable_of_row rfl exec_rrca fun s => rotAFlags_holds .rrc s.cpu.a _ _)
    (stop := fun pad _ => followsTable_of_unlisted (Instr.flagRow_of_opcode rfl) (exec_stop pad) opStop_f)
    (ld_mDE_A := fun _ => followsTable_of_unlisted rfl exec_ld_mDE_A fun s => opStA_f _ s)
    (rla := fun _ => followsTable_of_row rfl exec_rla fun s => rotAFlags_holds .rl s.cpu.a _ _)
    (jr_e := fun e _ => followsTable_of_unlisted (Instr.flagRow_of_opcode rfl) (exec_jr_e e)
      fun s => opJump_f _ s)
    (ld_A_mDE := fun _ => followsTable_of_unlisted rfl exec_ld_A_mDE fun s => opLdA_f _ s)
    (rra := fun _ => followsTable_of_row rfl exec_rra fun s => rotAFlags_holds .rr s.cpu.a _ _)
    (ld_mHLinc_A := fun _ => followsTable_of_unlisted rfl exec_ld_mHLinc_A fun s => opStA_f _ s)
    (daa := fun _ => followsTable_of_row (row := ⟨.result, .keep, .zero, .result⟩) rfl exec_daa
      fun _ => ⟨trivial, rfl, rfl, trivial⟩)
    (ld_A_mHLinc := fun _ => followsTable_of_unlisted rfl exec_ld_A_mHLinc fun s => opLdA_f _ s)
    (cpl := fun _ => followsTable_of_row (row := ⟨.keep, .one, .one, .keep⟩) rfl exec_cpl
      fun _ => ⟨rfl, rfl, rfl, rfl⟩)
    (ld_mHLdec_A := fun _ => followsTable_of_unlisted rfl exec_ld_mHLdec_A fun s => opStA_f _ s)
    (inc_mHL := fun _ => followsTable_of_row rfl exec_inc_mHL fun s => inc8_holds (readHL s).1 s.cpu.f)
    (dec_mHL := fun _ => followsTable_of_row rfl exec_dec_mHL fun s => dec8_holds (readHL s).1 s.cpu.f)
    (ld_mHL_n := fun n _ => followsTable_of_unlisted (Instr.flagRow_of_opcode rfl) (exec_ld_mHL_n n)
      fun s => congrArg Cpu.f (memWrite_cpu s _ n))
    (scf := fun _ => followsTable_of_row (row := ⟨.keep, .zero, .zero, .one⟩) rfl exec_scf
      fun _ => ⟨rfl, rfl, rfl, rfl⟩)
    (ld_A_mHLdec := fun _ => followsTable_of_unlisted rfl exec_ld_A_mHLdec fun s => opLdA_f _ s)
    (ccf := fun _ => followsTable_of_row (row := ⟨.keep, .zero, .zero, .result⟩) rfl exec_ccf
      fun _ => ⟨rfl, rfl, rfl, trivial⟩)
    (halt := fun _ => followsTable_of_unlisted rfl exec_halt fun _ => rfl)
    (jp_nn := fun nn _ => followsTable_of_unlisted rfl (exec_jp_nn nn) (opJump_f nn))
    (ret := fun _ => followsTable_of_unlisted rfl exec_ret opRet_f)
    (prefixCB := fun w => absurd w (by decide))
    (call_nn := fun nn _ => followsTable_of_unlisted rfl (exec_call_nn nn) (opCall_f nn))
    (reti := fun _ => followsTable_of_unlisted rfl exec_reti opRet_f)
    (ldh_mn_A := fun n _ => followsTable_of_unlisted rfl (exec_ldh_mn_A n) (opStA_f _))
    (ldh_mC_A := fun _ => followsTable_of_unlisted rfl exec_ldh_mC_A fun s => opStA_f _ s)
    (add_SP_e := fun e _ => followsTable_of_row rfl (exec_add_SP_e e)
      fun s => by rw [opAddSpE, idleM_cpu, idleM_cpu]; exact addSpE_holds _ e _)
    (jp_HL := fun _ => followsTable_of_unlisted rfl exec_jp_HL fun _ => rfl)
    (ld_mnn_A := fun nn _ => followsTable_of_unlisted rfl (exec_ld_mnn_A nn) (opStA_f nn))
    (ldh_A_mn := fun n _ => followsTable_of_unlisted rfl (exec_ldh_A_mn n) (opLdA_f _))
    (ldh_A_mC := fun _ => followsTable_of_unlisted rfl exec_ldh_A_mC fun s => opLdA_f _ s)
    (di := fun _ => followsTable_of_unlisted rfl exec_di fun _ => rfl)
    (ld_HL_SPe := fun e _ => followsTable_of_row rfl (exec_ld_HL_SPe e)
      fun s => by rw [opLdHlSpE, idleM_cpu]; exact addSpE_holds _ e _)
    (ld_SP_HL := fun _ => followsTable_of_unlisted rfl exec_ld_SP_HL fun s => by rw [idleM_cpu, State.setSp_cpu_f])
    (ld_A_mnn := fun nn _ => followsTable_of_unlisted rfl (exec_ld_A_mnn nn) (opLdA_f nn))
    (ei := fun _ => followsTable_of_unlisted rfl exec_ei fun _ => rfl)
    (illegal := fun i hi _ => followsTable_illegal i hi) i

/-- Settles O33: every instruction follows the row of its bytes, which for one that is read is that of its opcode. -/
theorem flagTable : Obligations.FlagTable := by
  intro op n1 n2 s t h
  obtain ⟨u, hu, hrow⟩ := exec_followsTable (decodeInstr op n1 n2) (decodeInstr_wellFormed op n1 n2) s
  rw [hu] at h
  cases h
  rwa [decodeInstr_flagRow] at hrow

end Machine

end Sys2Proof
end

section
/-! SUPPORT. 16-bit arithmetic (43_alu16.md R280 to R284): the results in the terms of the rules, and the idle M-cycles
before the writes of registers. Settles `Obligations.Arithmetic16`. -/
namespace Sys2Proof.Machine

/-- The sum of `ADD HL,rr` (R280) is addition modulo 2^16; its carries are those of the unsigned operands. -/
theorem add16_eq (v w : Word) (f : Flags) : add16 v w f =
    (v + w,
      ⟨f.z, false, decide (v.toNat % 4096 + w.toNat % 4096 > 4095), decide (v.toNat + w.toNat > 65535)⟩) := by
  rw [add16, BitVec.ofNat_add, BitVec.ofNat_toNat, BitVec.ofNat_toNat, BitVec.setWidth_eq, BitVec.setWidth_eq]

/-- The idle M-cycle of R280 does not read the registers that the addition writes. -/
theorem opAddHl_eq (rr : R16) (s : State) : opAddHl rr s =
    ((advanceM s).setHl (add16 s.cpu.hl (s.cpu.get16 rr) s.cpu.f).1).setF
      (add16 s.cpu.hl (s.cpu.get16 rr) s.cpu.f).2 := by
  rw [opAddHl, idleM, advanceM_setF, advanceM_setHl]

/-- The two idle M-cycles of R283 do not read the registers that the addition writes. -/
theorem opAddSpE_eq (e : Byte) (s : State) : opAddSpE e s =
    ((passM 2 s).setSp (addSpE s.cpu.sp e).1).setF (addSpE s.cpu.sp e).2 := by
  simp only [opAddSpE, idleM, advanceM_setF, advanceM_setSp, passM]

/-- Settles O24: each operation is its writes of registers, with the idle M-cycles moved before them. -/
theorem arithmetic16 : Obligations.Arithmetic16 := by
  intro s
  refine ⟨fun rr => ?addHl, fun rr => ?inc, fun rr => ?dec, fun e => ?addSp⟩
  case addHl => rw [exec_addHLRR, opAddHl_eq, add16_eq]
  case inc => rw [exec_incRR, idleM, advanceM_set16]
  case dec => rw [exec_decRR, idleM, advanceM_set16]
  case addSp => rw [exec_add_SP_e, opAddSpE_eq, addSpE_eq]

end Sys2Proof.Machine
end

section
/-! SUPPORT. Rotates, shifts and bits (44_rotate_shift_bit.md R290 to R306): the results of the model, computed on numbers,
as operations on bits, and the operand accesses. Settles `Obligations.RotatesAndShifts` and
`Obligations.BitTestResetSet`. -/
namespace Sys2Proof.Machine

/-! ### Shifts by one bit -/

/-- A shift left by one is known by the bit that enters and the seven that move. -/
theorem shiftLeft1_eq_of_bits {v w : Byte} {c : Bool} (henter : w[0] = c)
    (hmove : ∀ i (_ : i + 1 < 8), w[i + 1] = v[i]) : shiftLeft1 v c = w := by
  have hconcat : shiftLeft1 v c = v.shiftConcat c := by
    apply BitVec.eq_of_toNat_eq
    rw [shiftLeft1, BitVec.toNat_ofNat, BitVec.toNat_shiftConcat, Nat.shiftLeft_eq]
    cases c <;> rfl
  refine hconcat.trans (BitVec.eq_of_getElem_eq fun i hi => ?_)
  cases i with
  | zero => rw [BitVec.getElem_shiftConcat_zero, henter]
  | succ i => rw [BitVec.getElem_shiftConcat_succ, hmove i hi]

/-- A shift right by one is known by the bit that enters and the seven that move. -/
theorem shiftRight1_eq_of_bits {v w : Byte} {c : Bool} (henter : w[7] = c)
    (hmove : ∀ i (_ : i < 7), w[i] = v.getLsbD (1 + i)) : shiftRight1 v c = w := by
  have hhalf : v.toNat / 2 < 2 ^ 7 := by omega
  have hbits (i : Nat) (hi : i < 8) : (shiftRight1 v c)[i] =
      if i < 7 then (v.toNat / 2).testBit i else (b2n c).testBit (i - 7) := by
    rw [← BitVec.getLsbD_eq_getElem, shiftRight1, BitVec.getLsbD_ofNat, decide_eq_true hi, Bool.true_and, Nat.add_comm,
      Nat.mul_comm, Nat.testBit_two_pow_mul_add _ hhalf]
  refine BitVec.eq_of_getElem_eq fun i hi => (hbits i hi).trans ?_
  split
  next h => rw [hmove i h, Nat.testBit_div_two, Nat.add_comm]; rfl
  next h =>
    obtain rfl : i = 7 := by omega
    rw [henter]
    cases c <;> rfl

/-! ### The eight operations (R295 to R302) -/

theorem rotate_rlc (v : Byte) (c : Bool) : rotate .rlc v c = (v.rotateLeft 1, v.getLsbD 7) :=
  Prod.ext (shiftLeft1_eq_of_bits (BitVec.getElem_rotateLeft _)
    fun _ _ => (BitVec.getElem_rotateLeft _).trans (dif_neg (Nat.not_lt_of_le (Nat.le_add_left ..)))) rfl

theorem rotate_rrc (v : Byte) (c : Bool) : rotate .rrc v c = (v.rotateRight 1, v.getLsbD 0) :=
  Prod.ext (shiftRight1_eq_of_bits (BitVec.getElem_rotateRight _)
    fun _ hi => (BitVec.getElem_rotateRight _).trans (dif_pos hi)) rfl

theorem rotate_rl (v : Byte) (c : Bool) :
    rotate .rl v c = ((v <<< 1) ||| (if c then 1#8 else 0#8), v.getLsbD 7) :=
  Prod.ext (shiftLeft1_eq_of_bits (by cases c <;> simp) fun _ _ => by cases c <;> simp) rfl

theorem rotate_rr (v : Byte) (c : Bool) :
    rotate .rr v c = ((v >>> 1) ||| ((if c then 1#8 else 0#8) <<< 7), v.getLsbD 0) :=
  Prod.ext (shiftRight1_eq_of_bits (by cases c <;> simp) fun _ hi => by simp [hi]) rfl

theorem rotate_sla (v : Byte) (c : Bool) : rotate .sla v c = (v <<< 1, v.getLsbD 7) :=
  Prod.ext (shiftLeft1_eq_of_bits (by simp) fun _ _ => by simp) rfl

theorem rotate_sra (v : Byte) (c : Bool) : rotate .sra v c = (v.sshiftRight 1, v.getLsbD 0) :=
  Prod.ext (shiftRight1_eq_of_bits (BitVec.getElem_sshiftRight _)
    fun _ _ => (BitVec.getElem_sshiftRight _).trans (dif_pos (by omega))) rfl

theorem rotate_srl (v : Byte) (c : Bool) : rotate .srl v c = (v >>> 1, v.getLsbD 0) :=
  Prod.ext (shiftRight1_eq_of_bits (by simp) fun _ _ => BitVec.getElem_ushiftRight ..) rfl

/-- The low nibble moves to the high place, and the high one to the low place. -/
theorem rotate_swap (v : Byte) (c : Bool) : rotate .swap v c = (v.rotateLeft 4, false) := by
  have hhigh : v.toNat / 16 < 2 ^ 4 := by omega
  refine Prod.ext (BitVec.eq_of_getLsbD_eq fun i hi => ?_) rfl
  rw [rotate, BitVec.getLsbD_ofNat, Nat.mul_comm, Nat.testBit_two_pow_mul_add _ hhigh,
    Nat.testBit_div_two_pow (n := 4) v.toNat, BitVec.getLsbD_rotateLeft, decide_eq_true hi, Bool.true_and,
    Bool.true_and, Nat.add_comm i]
  split
  next h => rw [decide_eq_true h]; rfl
  next h => rw [decide_eq_false h]; rfl

/-- Settles O25: `rotate` gives the result and the carry of each operation; the register, the byte at `HL` and A take them
alike. -/
theorem rotatesAndShifts : Obligations.RotatesAndShifts := by
  intro s op c res out fl m
  have hrot (v : Byte) : rotate op v s.cpu.f.c = (res v, out v) := by
    cases op with
    | rlc => exact rotate_rlc v _
    | rrc => exact rotate_rrc v _
    | rl => exact rotate_rl v _
    | rr => exact rotate_rr v _
    | sla => exact rotate_sla v _
    | sra => exact rotate_sra v _
    | swap => exact rotate_swap v _
    | srl => exact rotate_srl v _
  have hflags (v : Byte) : rotFlags op v s.cpu.f = (res v, fl v) := by rw [rotFlags, hrot]; rfl
  have hacc : opOnA (rotAFlags op) s = s.setAF (res s.cpu.a) false false false (out s.cpu.a) := by
    rw [opOnA, rotAFlags, hrot]; rfl
  refine ⟨fun r => ?reg, ?mem, fun h => ?rlca, fun h => ?rrca, fun h => ?rla, fun h => ?rra⟩
  case reg => rw [exec_rotR, opRot, hflags]; rfl
  case mem => rw [exec_rotM, opRmw_eq, hflags]
  case rlca => rw [exec_rlca, ← h, hacc]
  case rrca => rw [exec_rrca, ← h, hacc]
  case rla => rw [exec_rla, ← h, hacc]
  case rra => rw [exec_rra, ← h, hacc]

/-! ### Bit test, reset and set -/

theorem getLsbD_one_shiftLeft (b k : Nat) (h : k < 8) : (1#8 <<< b).getLsbD k = decide (k = b) := by
  rw [← BitVec.twoPow_eq, BitVec.getLsbD_eq_getElem h, BitVec.getElem_twoPow]

theorem getLsbD_resBit (v : Byte) (b k : Nat) (h : k < 8) :
    (resBit v b).getLsbD k = if k = b then false else v.getLsbD k := by
  rw [resBit, BitVec.getLsbD_and, BitVec.getLsbD_not, getLsbD_one_shiftLeft b k h]
  split <;> simp [*]

theorem getLsbD_setBit (v : Byte) (b k : Nat) (h : k < 8) :
    (setBit v b).getLsbD k = if k = b then true else v.getLsbD k := by
  rw [setBit, BitVec.getLsbD_or, getLsbD_one_shiftLeft b k h]
  split <;> simp [*]

/-- The flags of `BIT b,(HL)` are written after the M-cycle of the read, which leaves F alone (R303, R306). -/
theorem opBitM_eq (b : Nat) (s : State) :
    opBitM b s = (advanceM s).setF (bitFlags (busRead s s.cpu.hl) b s.cpu.f) := by
  rw [opBitM, opBit, readHL, memRead_cpu]
  rfl

/-- The M-cycle of the read leaves `HL` alone, so the byte goes back to its address (R306). -/
theorem opPutM_eq (op : Byte → Byte) (s : State) :
    opPutM op s = memWrite (advanceM s) s.cpu.hl (op (busRead s s.cpu.hl)) := by
  rw [opPutM, writeHL, readHL, memRead_cpu]
  rfl

/-- Settles O26: `resBit` and `setBit` are the bytes written; BIT reads alone. -/
theorem bitTestResetSet : Obligations.BitTestResetSet := by
  intro s b fl one m
  have hres (v : Byte) : one v (resBit v b.toNat) false := getLsbD_resBit v b.toNat
  have hset (v : Byte) : one v (setBit v b.toNat) true := getLsbD_setBit v b.toNat
  refine ⟨fun r => exec_bitR b r s, ?bitM, fun r => ⟨_, hres _, exec_resR b r s⟩, fun r => ⟨_, hset _, exec_setR b r s⟩,
    ⟨_, hres m, ?resM⟩, ⟨_, hset m, ?setM⟩⟩
  case bitM => rw [exec_bitM, opBitM_eq]; rfl
  case resM => rw [exec_resM, opPutM_eq]
  case setM => rw [exec_setM, opPutM_eq]

end Sys2Proof.Machine
end

section
/-! SUPPORT. Jumps, calls and returns (45_control_transfer.md R320 to R331): each instruction is its operation in closed
form, under the condition of R168. Settles `Obligations.JumpsAndCalls` and `Obligations.Returns`. -/
namespace Sys2Proof.Machine

theorem opJumpRel_eq (e : Byte) (s : State) : opJumpRel e s = (advanceM s).setPc (s.cpu.pc + e.signExtend 16) := by
  rw [opJumpRel, opJump_eq, sext16_eq]

/-- `cond(cc)` by the four flags that R168 names. -/
theorem Flags.cond_eq (f : Flags) (cc : Cond) :
    f.cond cc = match cc with | .NZ => !f.z | .Z => f.z | .NC => !f.c | .C => f.c := by
  cases cc <;> rfl

/-- Settles O27: the closed forms of the operations, each under its condition. -/
theorem jumpsAndCalls : Obligations.JumpsAndCalls := by
  intro s holds rel call
  have hcond (cc : Cond) : s.cpu.f.cond cc = holds cc := s.cpu.f.cond_eq cc
  refine ⟨fun nn => ?jp, fun cc nn => ?jpCC, exec_jp_HL s, fun e => ?jr, fun cc e => ?jrCC, fun nn => ?call,
    fun cc nn => ?callCC, fun y => ?rst⟩
  case jp => rw [exec_jp_nn, opJump_eq]
  case jpCC => rw [exec_jpCC, opIf, opJump_eq, hcond]
  case jr => rw [exec_jr_e, opJumpRel_eq]
  case jrCC => rw [exec_jrCC, opIf, opJumpRel_eq, hcond]
  case call => rw [exec_call_nn, opCall_eq]
  case callCC => rw [exec_callCC, opIf, opCall_eq, hcond]
  case rst => rw [exec_rst, opCall_eq, Nat.mul_comm]

/-- Settles O28: `Pop16` in closed form; the idle M-cycle of `RET cc` leaves the flags it looks at. -/
theorem returns : Obligations.Returns := by
  unfold Obligations.Returns
  intro ret s holds
  have hret (u : State) : opRet u = ret u := opRet_eq u
  have hcond (cc : Cond) : (idleM s).cpu.f.cond cc = holds cc := by rw [idleM_cpu]; exact s.cpu.f.cond_eq cc
  refine ⟨?ret, fun cc => ?retCC, ?reti⟩
  case ret => rw [exec_ret, hret]
  case retCC => rw [exec_retCC, opIf, hcond, hret]; rfl
  case reti => rw [exec_reti, returnFromInterrupt_eq, hret]

end Sys2Proof.Machine
end

section
/-! SUPPORT. A word pushed to RAM is popped again, whatever time passes between (41_load16_stack.md R237, R238): the
cell behind a RAM address, what a store and an M-cycle do to it, then the two bytes of a pushed word. Settles
`Obligations.ReturnUndoesCall` and `Obligations.DispatchThenRetiReturns`. -/
namespace Sys2Proof.Machine

/-! ### The cell behind a RAM address -/

/-- Work RAM below its echo, and HRAM (20_memory.md R115, R121). -/
def InRam (a : Word) : Prop := (0xC000 ≤ a.toNat ∧ a.toNat ≤ 0xDFFF) ∨ (0xFF80 ≤ a.toNat ∧ a.toNat ≤ 0xFFFE)

/-- The cell behind a RAM address; of the state only the work RAM bank decides it (R115, R126). -/
def State.ramCell (s : State) (a : Word) : Cell :=
  if 0xFF80 ≤ a.toNat then .hram (a.toNat - 0xFF80)
  else if 0xD000 ≤ a.toNat then .wram (s.wramOff (a.toNat - 0xD000))
  else .wram (a.toNat - 0xC000)

theorem ramCell_ne_oam (s : State) (a : Word) (k : Nat) : s.ramCell a ≠ .oam k := by
  unfold State.ramCell; split_ifs <;> exact Cell.noConfusion

theorem ramCell_stored (s : State) (a : Word) (v : Byte) : (s.ramCell a).stored v = v := by
  unfold State.ramCell; split_ifs <;> rfl

theorem ramCell_congr {s t : State} (hcgb : t.cgb = s.cgb) (hbanks : t.banks = s.banks) (a : Word) :
    t.ramCell a = s.ramCell a := by
  unfold State.ramCell State.wramOff State.wBank
  rw [hcgb, hbanks]

/-- The selectable bank of work RAM is never bank 0 (R126). -/
theorem wramBankSize_le_wramOff (s : State) (off : Nat) : Config.wramBankSize ≤ s.wramOff off := by
  have hbank : 0 < s.wBank := by
    unfold State.wBank orOne; split_ifs <;> omega
  exact (Nat.le_mul_of_pos_left _ hbank).trans (Nat.le_add_right _ off)

theorem ramCell_injective (s : State) {a b : Word} (ha : InRam a) (hb : InRam b) (h : s.ramCell a = s.ramCell b) :
    a = b := by
  have hoffa := wramBankSize_le_wramOff s (a.toNat - 0xD000)
  have hoffb := wramBankSize_le_wramOff s (b.toNat - 0xD000)
  refine BitVec.eq_of_toNat_eq ?_
  unfold InRam at ha hb
  unfold State.ramCell at h
  unfold State.wramOff at h hoffa hoffb
  unfold Config.wramBankSize at h hoffa hoffb
  split_ifs at h <;> simp only [Cell.wram.injEq, Cell.hram.injEq] at h <;> omega

/-- The cell of the address is what the bus reads and writes there, and a store to it leaves every unit alone. -/
structure RamAccess (s : State) (a : Word) : Prop where
  read : rawRead s a = s.cell (s.ramCell a)
  target : s.storeTarget a = some (s.ramCell a)
  units : ∀ v, SameUnits s (busWrite s a v)

theorem RamAccess.of_region {s : State} {a : Word} {r : Region} {c : Cell} (hr : regionOf a = r) (hc : s.ramCell a = c)
    (read : rawReadRegion s r = s.cell c) (target : s.targetOfRegion r = some c)
    (units : ∀ v, SameUnits s (busWriteRegion s r v)) : RamAccess s a := by
  subst hr hc; exact ⟨read, target, units⟩

theorem InRam.access {a : Word} (h : InRam a) (s : State) : RamAccess s a := by
  obtain ⟨lo, hi⟩ | ⟨lo, hi⟩ := h
  · by_cases hbank : 0xD000 ≤ a.toNat
    · have hcell : s.ramCell a = .wram (s.wramOff (a.toNat - 0xD000)) := by
        rw [State.ramCell, if_neg (by omega), if_pos hbank]
      exact .of_region (regionOf_wramN hbank hi) hcell rfl rfl fun _ => by constructor <;> rfl
    · have hcell : s.ramCell a = .wram (a.toNat - 0xC000) := by
        rw [State.ramCell, if_neg (by omega), if_neg hbank]
      exact .of_region (regionOf_wram0 lo (by omega)) hcell rfl rfl fun _ => by constructor <;> rfl
  · exact .of_region (regionOf_hram lo hi) (if_pos lo) rfl rfl fun _ => by constructor <;> rfl

/-! ### A byte held in RAM -/

/-- The CPU may read the RAM address `a`: in work RAM only while no OAM DMA runs (R110, R130). -/
structure State.RamOpen (s : State) (a : Word) : Prop where
  inRam : InRam a
  unblocked : s.dma.active = false ∨ 0xFF00 ≤ a.toNat

/-- The RAM address `a` holds `v`, open to a read of the CPU. -/
structure State.RamHolds (s : State) (a : Word) (v : Byte) : Prop where
  isOpen : s.RamOpen a
  cell : s.cell (s.ramCell a) = v

section
variable {s : State} {a b : Word} {v w : Byte}

theorem State.RamOpen.advanceM (h : s.RamOpen a) : (advanceM s).RamOpen a :=
  ⟨h.inRam, h.unblocked.imp_left fun hdma => (advanceM_oam hdma).1⟩

/-- A store to RAM starts no OAM DMA. -/
theorem State.RamOpen.memWrite (h : s.RamOpen a) (hb : InRam b) : (Machine.memWrite s b w).RamOpen a := by
  have hdma := ((hb.access s).units w).dma
  exact State.RamOpen.advanceM ⟨h.inRam, by rw [hdma]; exact h.unblocked⟩

theorem State.RamHolds.busRead (h : s.RamHolds a v) : busRead s a = v := by
  obtain ⟨⟨hram, hopen⟩, hcell⟩ := h
  have hclosed : readBlocked s a = false := by
    unfold InRam at hram
    rw [readBlocked_elsewhere s (by omega) (by omega), Bool.and_eq_false_iff, decide_eq_false_iff_not, Nat.not_lt]
    exact hopen
  rw [busRead_of_not_blocked (Bool.eq_false_iff.mp hclosed), (hram.access s).read, hcell]

theorem State.RamHolds.advanceM (h : s.RamHolds a v) : (advanceM s).RamHolds a v where
  isOpen := h.isOpen.advanceM
  cell := by
    rw [ramCell_congr (advanceM_cgb s) (advanceM_banks s), advanceM_cell (.inl (ramCell_ne_oam s a)), h.cell]

theorem State.RamHolds.passM (n : Nat) (h : s.RamHolds a v) : (passM n s).RamHolds a v := by
  induction n generalizing s with
  | zero => exact h
  | succ n ih => exact ih h.advanceM

/-- The registers of the CPU and the interrupt controller have no part in what RAM holds. -/
theorem State.RamHolds.withCpuIrq (h : s.RamHolds a v) (c : Cpu) (q : Irq) :
    ({ s with cpu := c, irq := q } : State).RamHolds a v :=
  ⟨{ h.isOpen with }, h.cell⟩

theorem State.RamHolds.setSp (h : s.RamHolds a v) (sp : Word) : (s.setSp sp).RamHolds a v := h.withCpuIrq _ s.irq

theorem ramCell_memWrite (hb : InRam b) : (memWrite s b w).ramCell a = s.ramCell a := by
  have hsame := (hb.access s).units w
  exact ramCell_congr ((advanceM_cgb _).trans hsame.cgb) ((advanceM_banks _).trans hsame.banks) a

/-- A byte stored to RAM is held there. -/
theorem State.RamOpen.memWrite_same (h : s.RamOpen a) (hcan : s.Canonical) : (Machine.memWrite s a v).RamHolds a v where
  isOpen := h.memWrite h.inRam
  cell := by
    have hstored := memWrite_stored (x := ⟨s, a, v⟩) (h.inRam.access s).target hcan
    rw [ramCell_memWrite h.inRam, hstored.2, ramCell_stored]

/-- A store to another RAM address leaves a held byte alone. -/
theorem State.RamHolds.memWrite_of_ne (h : s.RamHolds a v) (hcan : s.Canonical) (hb : InRam b) (hne : b ≠ a) :
    (Machine.memWrite s b w).RamHolds a v where
  isOpen := h.isOpen.memWrite hb
  cell := by
    have hother : s.storeTarget b ≠ some (s.ramCell a) := by
      rw [(hb.access s).target]
      exact fun e => hne (ramCell_injective s hb h.isOpen.inRam (Option.some.inj e))
    have hoam := ramCell_ne_oam s a
    have hspared := memWrite_spared (x := ⟨s, b, w⟩) ⟨hother, .inl hoam⟩ hcan (.inl hoam)
    rw [ramCell_memWrite hb, hspared.2, h.cell]

end

/-! ### A word pushed and popped -/

/-- The two bytes below `sp` are RAM that the CPU may read: HRAM, or work RAM while no OAM DMA runs. -/
def State.StackRoom (s : State) : Prop :=
  (s.dma.active = false ∧ 0xC002 ≤ s.cpu.sp.toNat ∧ s.cpu.sp.toNat ≤ 0xE000) ∨ 0xFF82 ≤ s.cpu.sp.toNat

/-- The word `v` lies at `sp`, low byte first, in RAM that the CPU may read. -/
structure State.StackTop (s : State) (v : Word) : Prop where
  low : s.RamHolds s.cpu.sp (loByte v)
  high : s.RamHolds (s.cpu.sp + 1#16) (hiByte v)

section
variable {s : State} {v : Word}

theorem State.StackRoom.ramOpen (h : s.StackRoom) : s.RamOpen (s.cpu.sp - 1#16) ∧ s.RamOpen (s.cpu.sp - 2#16) := by
  obtain ⟨hdma, lo, hi⟩ | lo := h
  · exact ⟨⟨.inl (by bv_omega), .inl hdma⟩, ⟨.inl (by bv_omega), .inl hdma⟩⟩
  · exact ⟨⟨.inr (by bv_omega), .inr (by bv_omega)⟩, ⟨.inr (by bv_omega), .inr (by bv_omega)⟩⟩

theorem State.StackRoom.advanceM (h : s.StackRoom) : (advanceM s).StackRoom := by
  unfold State.StackRoom
  rw [advanceM_cpu]
  exact h.imp_left fun hram => ⟨(advanceM_oam hram.1).1, hram.2⟩

theorem State.StackRoom.maskInterrupts (h : s.StackRoom) : ((s.setIme false).setImePending false).StackRoom := h

/-- The high byte is pushed first, and the low byte at another address (41_load16_stack.md R237). -/
theorem State.StackRoom.push16_stackTop (h : s.StackRoom) (hcan : s.Canonical) (v : Word) :
    (push16 s v).StackTop v := by
  obtain ⟨hopenHigh, hopenLow⟩ := h.ramOpen
  have hcan' := memWrite_canonical (s.cpu.sp - 1#16) (hiByte v) hcan
  have hne : s.cpu.sp - 2#16 ≠ s.cpu.sp - 1#16 := by bv_omega
  have hhigh := (hopenHigh.memWrite_same (v := hiByte v) hcan).memWrite_of_ne (w := loByte v) hcan' hopenLow.inRam hne
  have hlow := (hopenLow.memWrite (w := hiByte v) hopenHigh.inRam).memWrite_same (v := loByte v) hcan'
  have haddr : s.cpu.sp - 2#16 + 1#16 = s.cpu.sp - 1#16 := by bv_omega
  rw [push16_eq]
  constructor <;> rw [State.setSp_cpu_sp]
  · exact hlow.setSp _
  · rw [haddr]; exact hhigh.setSp _

theorem State.StackTop.passM (n : Nat) (h : s.StackTop v) : (passM n s).StackTop v := by
  constructor <;> rw [passM_cpu]
  · exact h.low.passM n
  · exact h.high.passM n

theorem State.StackTop.setPc (h : s.StackTop v) (pc : Word) : (s.setPc pc).StackTop v :=
  ⟨h.low.withCpuIrq _ s.irq, h.high.withCpuIrq _ s.irq⟩

/-- The choice of the source writes `pc` and the interrupt controller (60_exceptions.md R410), and no RAM. -/
theorem State.StackTop.chooseVector (h : s.StackTop v) : (chooseVector s).StackTop v := by
  unfold Machine.chooseVector; split
  · exact h.setPc _
  · exact ⟨h.low.withCpuIrq _ _, h.high.withCpuIrq _ _⟩

/-- `RET` takes the word at `sp` as its `pc` (45_control_transfer.md R328). -/
theorem opRet_of_stackTop (h : s.StackTop v) : opRet s = ((passM 3 s).setSp (s.cpu.sp + 2#16)).setPc v := by
  rw [opRet_eq, h.low.busRead, h.high.advanceM.busRead, pair_hi_lo]

/-- The same after `n` M-cycles, for the registers: time leaves them alone. -/
theorem opRet_passM_cpu_of_stackTop (h : s.StackTop v) (n : Nat) :
    (opRet (passM n s)).cpu = { s.cpu with sp := s.cpu.sp + 2#16, pc := v } := by
  rw [opRet_of_stackTop (h.passM n)]
  simp only [State.setPc, State.setSp, passM_cpu]

/-! ### Calls -/

theorem opCall_cpu (nn : Word) (s : State) :
    (opCall nn s).cpu = { s.cpu with sp := s.cpu.sp - 2#16, pc := nn } := by
  simp only [opCall, State.setPc, push16_cpu, idleM_cpu]

theorem opCall_stackTop (h : s.StackRoom) (hcan : s.Canonical) (nn : Word) : (opCall nn s).StackTop s.cpu.pc :=
  State.StackTop.setPc (h.advanceM.push16_stackTop (advanceM_canonical hcan) s.cpu.pc) nn

/-- A call answers `opCall` of its target, whichever of the three it is (R326, R327, R331). -/
theorem exists_opCall_of_call {t : State} (h : (∃ nn, exec (.call_nn nn) s = .next t) ∨
    (∃ cc nn, s.cpu.f.cond cc = true ∧ exec (.callCC cc nn) s = .next t) ∨ (∃ y, exec (.rst y) s = .next t)) :
    ∃ nn, t = opCall nn s := by
  obtain ⟨nn, h⟩ | ⟨cc, nn, hcc, h⟩ | ⟨y, h⟩ := h
  · rw [exec_call_nn] at h
    exact ⟨nn, (Host.Outcome.next.inj h).symm⟩
  · rw [exec_callCC, opIf, if_pos hcc] at h
    exact ⟨nn, (Host.Outcome.next.inj h).symm⟩
  · rw [exec_rst] at h
    exact ⟨_, (Host.Outcome.next.inj h).symm⟩

/-! ### Interrupts -/

theorem chooseVector_sp (s : State) : (chooseVector s).cpu.sp = s.cpu.sp := by
  unfold chooseVector; split <;> rfl

theorem dispatch_sp (s : State) : (dispatch s).cpu.sp = s.cpu.sp - 2#16 := by
  rw [dispatch, chooseVector_sp, push16_cpu]
  simp only [State.setImePending_cpu_sp, State.setIme_cpu_sp, idleM_cpu]

/-- Taking an interrupt leaves the interrupted `pc` on top of the stack (R410). -/
theorem dispatch_stackTop (h : s.StackRoom) (hcan : s.Canonical) : (dispatch s).StackTop s.cpu.pc := by
  have hroom : (((idleM (idleM s)).setIme false).setImePending false).StackRoom :=
    h.advanceM.advanceM.maskInterrupts
  have hcan' := keeps_canonical.setImePending false (keeps_canonical.setIme false
    (keeps_canonical.idleM (keeps_canonical.idleM hcan)))
  have hpc : (((idleM (idleM s)).setIme false).setImePending false).cpu.pc = s.cpu.pc := by
    rw [State.setImePending_cpu_pc, State.setIme_cpu_pc, idleM_cpu, idleM_cpu]
  rw [← hpc]
  exact (hroom.push16_stackTop hcan' _).chooseVector

/-- A step that takes an interrupt: `halt` is cleared before (R413). -/
theorem step_of_interrupt (hi : s.cpu.illegal = false) (hh : hdmaHolds s = false) (hstop : s.cpu.stop = false)
    (hime : s.cpu.ime = true) (hpending : s.irq.pending ≠ 0#5) :
    step s = .next (dispatch (wakeStop (wakeHalt s))) := by
  have hd : dispatches (wakeStop (wakeHalt s)) = true :=
    (dispatches_iff _).mpr ⟨Bool.and_eq_false_iff.mpr (.inl hstop), hime, hpending⟩
  rw [step_awake hi hh, awakeStep, if_pos hd]

end

/-! ### The returns -/

/-- Settles O29: the call leaves the return address on top of the stack, time leaves it there, and `RET` takes it. -/
theorem returnUndoesCall : Obligations.ReturnUndoesCall := by
  intro s t n hcan hdma hsp hcall
  obtain ⟨nn, rfl⟩ := exists_opCall_of_call hcall
  have hroom : s.StackRoom := hsp.imp_left fun hram => ⟨hdma, hram⟩
  refine ⟨_, exec_ret (passM n (opCall nn s)), ?_⟩
  rw [opRet_passM_cpu_of_stackTop (opCall_stackTop hroom hcan nn), opCall_cpu, BitVec.sub_add_cancel]

/-- Settles O10: the dispatch leaves the interrupted `pc` on top of the stack, and `RETI` is `RET` that sets `ime`. -/
theorem dispatchThenRetiReturns : Obligations.DispatchThenRetiReturns := by
  intro s t n hcan hi hh hstop hime hpending hsp _ hstep
  rw [step_of_interrupt hi hh hstop hime hpending] at hstep
  obtain rfl := Host.Outcome.next.inj hstep
  have hroom : (wakeStop (wakeHalt s)).StackRoom := .inr hsp
  have htop := dispatch_stackTop hroom (keeps_canonical.wakeStop (keeps_canonical.wakeHalt hcan))
  have hret := opRet_passM_cpu_of_stackTop htop n
  refine ⟨_, exec_reti (passM n (dispatch (wakeStop (wakeHalt s)))), ?_⟩
  rw [returnFromInterrupt_eq, State.setIme_cpu_pc, State.setIme_cpu_sp, State.setIme_cpu_ime, hret, dispatch_sp]
  exact ⟨rfl, BitVec.sub_add_cancel .., rfl⟩

end Sys2Proof.Machine
end

section
/-! SUPPORT. The delayed enable of EI (46_system_control.md R343, R344, R346; 60_exceptions.md R400, R401): what an
instruction does to `ime` and the pending flag, then what the enable after it adds. Settles
`Obligations.DelayedInterruptEnable`. -/
namespace Sys2Proof.Machine

/-! ### The instruction -/

section
variable {i : Instr} {s t : State}

/-- Only `EI` sets the pending flag; all but `DI` keep a set one. -/
theorem exec_imePending (w : i.wellFormed = true) (h : exec i s = .next t) (hdi : i ≠ .di) :
    t.cpu.imePending = true ↔ i = .ei ∨ s.cpu.imePending = true := by
  by_cases hei : i = .ei
  · subst hei
    rw [exec_ei] at h; cases h
    simp
  · rw [(exec_controlFrame w h).imePending hdi hei]
    simp [hei]

theorem ne_of_isIllegal {j : Instr} (hi : i.isIllegal = true) (hj : j.isIllegal = false) : i ≠ j := by
  rintro rfl; rw [hi] at hj; cases hj

end

/-! ### The enable after it -/

theorem delayedEnable_false (s : State) : delayedEnable false s = s := rfl

theorem delayedEnable_of_not_imePending (p : Bool) {s : State} (h : s.cpu.imePending = false) :
    delayedEnable p s = s := by
  rw [delayedEnable, h, Bool.and_false, Bool.false_and]
  rfl

/-- An instruction that starts and ends with the pending flag set brings the enable. -/
theorem delayedEnable_of_imePending {s : State} (h : s.cpu.imePending = true) (hi : s.cpu.illegal = false) :
    delayedEnable true s = (s.setIme true).setImePending false := by
  rw [delayedEnable, h, hi]
  rfl

/-! ### The step -/

/-- The step of an instruction: the effect of the instruction at `pc` after its fetch, then the enable (R401). -/
theorem exists_exec_of_step {s t : State} (hs : s.RunsInstr) (hstep : step s = .next t) :
    ∃ u, exec s.nextInstr (s.afterFetch (encode s.nextInstr).length) = .next u ∧
      t = delayedEnable s.cpu.imePending u := by
  obtain ⟨u, hu, -⟩ := exec_framed s.nextInstr (decodeInstr_wellFormed ..) (s.afterFetch (encode s.nextInstr).length)
  rw [step_of_exec hs hu] at hstep
  cases hstep
  exact ⟨u, hu, rfl⟩

theorem afterFetch_cpu (s : State) (n : Nat) :
    (s.afterFetch n).cpu = { s.cpu with pc := s.cpu.pc + BitVec.ofNat 16 n } := by
  rw [State.afterFetch, State.setPc, passM_cpu]

/-- A stopped CPU with no selected key held keeps its two flags, whether it is frozen, held or idle (R415). -/
theorem step_ime_of_stop {s t : State} (hstop : s.cpu.stop = true) (hlines : s.joy.lines = 0xF#4)
    (hstep : step s = .next t) : t.cpu.ime = s.cpu.ime ∧ t.cpu.imePending = s.cpu.imePending := by
  have hstop' : (wakeStop (wakeHalt s)).cpu.stop = true :=
    Bool.and_eq_true_iff.mpr ⟨hstop, beq_iff_eq.mpr hlines⟩
  obtain ⟨-, rfl⟩ | ⟨-, -, rfl⟩ | ⟨-, -, ⟨hd, -⟩ | ⟨-, -, rfl⟩ | ⟨-, hrun, -⟩⟩ := step_cases hstep
  · exact ⟨rfl, rfl⟩
  · rw [hdmaStepM_cpu]; exact ⟨rfl, rfl⟩
  · rw [not_dispatches_of_waiting (.inl hstop')] at hd; cases hd
  · rw [idleM_cpu]; exact ⟨rfl, rfl⟩
  · rw [hstop', Bool.or_true] at hrun; cases hrun

/-- A frozen or held CPU keeps its registers and flags (R402; 62_dma_hdma.md R494). -/
theorem step_cpu_of_frozen_or_held {s t : State} (h : s.cpu.illegal = true ∨ hdmaHolds s = true)
    (hstep : step s = .next t) : t.cpu = s.cpu := by
  by_cases hi : s.cpu.illegal = true
  · cases hstep.symm.trans (step_frozen hi); rfl
  · cases hstep.symm.trans (step_held (Bool.eq_false_iff.mpr hi) (h.resolve_left hi))
    exact hdmaStepM_cpu s

/-- Settles O12 (log entry 20): each clause is what the instruction does to the two flags, then
`delayedEnable`. -/
theorem delayedInterruptEnable : Obligations.DelayedInterruptEnable := by
  refine ⟨fun s t hs hstep => ?_, fun s t hstep =>
    ⟨fun h => step_cpu_of_frozen_or_held h hstep, fun h hlines => step_ime_of_stop h hlines hstep⟩⟩
  obtain ⟨u, hu, rfl⟩ := exists_exec_of_step hs hstep
  have hwf : s.nextInstr.wellFormed = true := decodeInstr_wellFormed ..
  have hframe := exec_controlFrame hwf hu
  have hpending := exec_imePending hwf hu
  have hillegal := exec_cpu_illegal hwf hu
  rw [afterFetch_cpu] at hframe hpending hillegal
  rw [hs.notFrozen, Bool.false_or] at hillegal
  refine ⟨fun hi => ?di, fun hi => ?illegal, fun hdi hi hp => ?enable, fun hdi hp => ?noEnable⟩
  case di =>
    rw [hi, exec_di] at hu; cases hu
    rw [delayedEnable_of_not_imePending _ rfl]
    exact ⟨rfl, rfl⟩
  case illegal =>
    rw [delayedEnable_of_illegal _ (hillegal.trans hi)]
    exact ⟨hframe.ime (ne_of_isIllegal hi rfl) (ne_of_isIllegal hi rfl),
      hframe.imePending (ne_of_isIllegal hi rfl) (ne_of_isIllegal hi rfl)⟩
  case enable =>
    rw [hp, delayedEnable_of_imePending ((hpending hdi).mpr (.inr hp)) (hillegal.trans hi)]
    exact ⟨rfl, rfl⟩
  case noEnable =>
    rw [hp, delayedEnable_false]
    refine ⟨(hpending hdi).trans ⟨fun h => ?_, .inl⟩, hframe.ime hdi, fun hi => ?_⟩
    · exact h.resolve_right fun hp' => Bool.false_ne_true (hp.symm.trans hp')
    · rw [hi, exec_reti] at hu; cases hu; rfl

end Sys2Proof.Machine
end

section
/-! SUPPORT. System control (46_system_control.md R340 to R344): the two branches of STOP. Settles
`Obligations.SystemControl`. -/
namespace Sys2Proof.Machine

/-- STOP with its test as a proposition: the speed is switched only in extended mode with a switch prepared (R342). -/
theorem opStop_eq_ite (s : State) :
    opStop s =
      if s.cgb = true ∧ s.speed.prepare = true
      then { s with timer := s.timer.divReset, speed := ⟨!s.speed.doubleSpeed, false⟩ }
      else { s with timer := s.timer.divReset, cpu := { s.cpu with stop := true } } :=
  if_congr Bool.and_eq_true_iff rfl rfl

/-- Settles O30: each is its own operation, and that of STOP is `opStop` in closed form. -/
theorem systemControl : Obligations.SystemControl := by
  intro s
  refine ⟨exec_nop s, exec_halt s, fun pad => ?stop, exec_di s, exec_ei s⟩
  case stop => rw [exec_stop, opStop_eq_ite]

end Sys2Proof.Machine
end

section
/-! SUPPORT. The step answers (60_exceptions.md R400, R403), the wake rules (R413, R415) and the dispatch of an interrupt in
closed form (R410). Settles `Obligations.StepAlwaysAnswersNext`, `Obligations.HaltAndStopWake` and
`Obligations.InterruptDispatch`. -/
namespace Sys2Proof.Machine

/-! ### Every step answers -/

theorem eq_prefixCB_of_not_wellFormed {i : Instr} (h : i.wellFormed = false) : i = .prefixCB := by
  unfold Instr.wellFormed at h
  split at h
  · rfl
  · cases h

/-- Settles O8: what no primitive can break, every step and every whole instruction answer; the lone 0xCB runs the
instruction of its second byte. -/
theorem stepAlwaysAnswersNext : Obligations.StepAlwaysAnswersNext := by
  refine ⟨fun s => ?_, fun i s => ?_⟩
  · obtain ⟨t, ht, -⟩ := keeps_true.step (s := s) trivial
    exact ⟨t, ht⟩
  · cases hwf : i.wellFormed with
    | true =>
      obtain ⟨t, ht, -⟩ := keeps_true.exec i hwf s trivial
      exact ⟨t, ht⟩
    | false =>
      obtain ⟨t, ht, -⟩ := prefixRunsSelectedInstruction.1 s
      exact ⟨t, eq_prefixCB_of_not_wellFormed hwf ▸ ht⟩

/-! ### The wake rules -/

section
variable {s : State}

theorem setHalt_of_eq {b : Bool} (h : s.cpu.halt = b) : s.setHalt b = s := by subst h; rfl

theorem setStop_of_eq {b : Bool} (h : s.cpu.stop = b) : s.setStop b = s := by subst h; rfl

/-- An enabled and pending source ends the halt, whatever `ime` (R413). -/
theorem wakeHalt_of_pending (h : s.irq.pending ≠ 0#5) : wakeHalt s = s.setHalt false := by
  rw [wakeHalt, beq_eq_false_iff_ne.mpr h, Bool.and_false]

theorem wakeHalt_of_not_pending (h : s.irq.pending = 0#5) : wakeHalt s = s := by
  rw [wakeHalt, h, beq_self_eq_true, Bool.and_true]
  rfl

theorem wakeHalt_of_not_halt (h : s.cpu.halt = false) : wakeHalt s = s := by
  rw [wakeHalt, h, Bool.false_and, setHalt_of_eq h]

/-- A selected key that is held ends the stop state (R415). -/
theorem wakeStop_of_key (h : s.joy.lines ≠ 0xF#4) : wakeStop s = s.setStop false := by
  rw [wakeStop, beq_eq_false_iff_ne.mpr h, Bool.and_false]

theorem wakeStop_of_no_key (h : s.joy.lines = 0xF#4) : wakeStop s = s := by
  rw [wakeStop, h, beq_self_eq_true, Bool.and_true]
  rfl

theorem wakeStop_of_not_stop (h : s.cpu.stop = false) : wakeStop s = s := by
  rw [wakeStop, h, Bool.false_and, setStop_of_eq h]

/-- A CPU that the wake rules leave halted or stopped passes one idle M-cycle. -/
theorem step_of_waiting (hi : s.cpu.illegal = false) (hh : hdmaHolds s = false) (hwake : wakeStop (wakeHalt s) = s)
    (hwait : s.cpu.stop = true ∨ s.cpu.halt = true) : step s = .next (advanceM s) := by
  have hd := not_dispatches_of_waiting (s := s) (by rw [hwake]; exact hwait)
  rw [hwake] at hd
  rw [step_awake hi hh, hwake, awakeStep, hd, if_neg Bool.false_ne_true, if_pos (Bool.or_eq_true_iff.mpr hwait.symm)]
  rfl

/-- Settles O11: a CPU that stays asleep idles; one that wakes is, after the wake rules, the CPU with its flag cleared. -/
theorem haltAndStopWake : Obligations.HaltAndStopWake := by
  refine ⟨fun s hi hh hhalt hstop => ⟨fun hnone => ?_, fun hpending => ?_⟩,
    fun s hi hh hstop hhalt => ⟨fun hnone => ?_, fun hkey => ?_⟩⟩
  · exact step_of_waiting hi hh (by rw [wakeHalt_of_not_pending hnone, wakeStop_of_not_stop hstop]) (.inr hhalt)
  · rw [step_awake hi hh]
    refine Eq.trans ?_ (step_awake (s := s.setHalt false) hi hh).symm
    rw [wakeHalt_of_pending hpending, wakeHalt_of_not_halt (s := s.setHalt false) rfl]
  · exact step_of_waiting hi hh (by rw [wakeHalt_of_not_halt hhalt, wakeStop_of_no_key hnone]) (.inl hstop)
  · rw [step_awake hi hh]
    refine Eq.trans ?_ (step_awake (s := s.setStop false) hi hh).symm
    rw [wakeHalt_of_not_halt hhalt, wakeStop_of_key hkey, wakeHalt_of_not_halt (s := s.setStop false) hhalt,
      wakeStop_of_not_stop (s := s.setStop false) rfl]

end

/-! ### The dispatch of an interrupt -/

/-- The machine after the two idle M-cycles and the two pushes of a dispatch. -/
def afterPushes (s : State) : State :=
  memWrite (memWrite (passM 2 s) (s.cpu.sp - 1#16) (hiByte s.cpu.pc)) (s.cpu.sp - 2#16) (loByte s.cpu.pc)

theorem afterPushes_cpu (s : State) : (afterPushes s).cpu = s.cpu := by
  rw [afterPushes, memWrite_cpu, memWrite_cpu, passM_cpu]

theorem afterPushes_setHalt (s : State) (b : Bool) : afterPushes (s.setHalt b) = (afterPushes s).setHalt b := by
  simp only [afterPushes, passM_setHalt, memWrite_setHalt, State.setHalt_cpu_sp, State.setHalt_cpu_pc]

/-- `Dispatch()` (R410): the pushes, the CPU's flags, then the choice of the source. -/
theorem dispatch_eq (s : State) : dispatch s =
    chooseVector ((((afterPushes s).setIme false).setImePending false).setSp (s.cpu.sp - 2#16)) := by
  rw [dispatch, push16_eq]
  simp only [idleM, advanceM_cpu, State.setImePending_cpu_sp, State.setImePending_cpu_pc, State.setIme_cpu_sp,
    State.setIme_cpu_pc, memWrite_setImePending, memWrite_setIme]
  rfl

theorem lowestBit_eq : ∀ m : BitVec 5, ∀ i < 5, m.getLsbD i = true → (∀ j < i, m.getLsbD j = false) → lowestBit m = i := by
  decide

theorem getLsbD_clearBit : ∀ m : BitVec 5, ∀ i < 5, ∀ j < 5,
    (m &&& ~~~(1#5 <<< i)).getLsbD j = (m.getLsbD j && j != i) := by
  decide

theorem chooseVector_of_not_pending {s : State} (h : s.irq.pending = 0#5) : chooseVector s = s.setPc 0x0000#16 := if_pos h

/-- The lowest pending enabled source gives the vector, and its IF bit is cleared (R410, R411). -/
theorem chooseVector_of_pending {s : State} {i : Nat} (hi : i < 5) (h : s.irq.pending.getLsbD i = true)
    (hlow : ∀ j < i, s.irq.pending.getLsbD j = false) :
    chooseVector s =
      { s.setPc (BitVec.ofNat 16 (0x40 + 8 * i)) with irq := { s.irq with pend := s.irq.pend &&& ~~~(1#5 <<< i) } } := by
  have hne : s.irq.pending ≠ 0#5 := by
    intro h0; rw [h0, BitVec.getLsbD_zero] at h; cases h
  rw [chooseVector, if_neg hne, lowestBit_eq _ i hi h hlow, interruptVector]

/-- The choice of the source writes `pc` and IF only. -/
theorem chooseVector_frame (s : State) :
    chooseVector s =
      { s.setPc (chooseVector s).cpu.pc with irq := { s.irq with pend := (chooseVector s).irq.pend } } := by
  unfold chooseVector
  split <;> rfl

/-- The CPU after the pushes of a dispatch (R410). -/
def Cpu.dispatched (c : Cpu) : Cpu :=
  { c with sp := c.sp - 2#16, ime := false, imePending := false, halt := false }

theorem setters_eq_dispatched (u : State) :
    ((((u.setHalt false).setIme false).setImePending false).setSp (u.cpu.sp - 2#16)) = withCpu u u.cpu.dispatched := rfl

/-- The step that takes an interrupt: halt is cleared before the dispatch, which the pushes do not see. -/
theorem step_dispatch {s : State} (hi : s.cpu.illegal = false) (hh : hdmaHolds s = false) (hstop : s.cpu.stop = false)
    (hime : s.cpu.ime = true) (hpending : s.irq.pending ≠ 0#5) :
    step s = .next (chooseVector (withCpu (afterPushes s) s.cpu.dispatched)) := by
  have hwake : wakeStop (wakeHalt s) = s.setHalt false := by
    rw [wakeHalt_of_pending hpending, wakeStop_of_not_stop (s := s.setHalt false) hstop]
  have hcpu := setters_eq_dispatched (afterPushes s)
  rw [afterPushes_cpu] at hcpu
  rw [step_of_interrupt hi hh hstop hime hpending, hwake, dispatch_eq, afterPushes_setHalt, State.setHalt_cpu_sp, hcpu]

/-- Settles O9: the step is the choice of the source from the machine after the pushes. -/
theorem interruptDispatch : Obligations.InterruptDispatch := by
  intro s hi hh hstop hime hpending
  have hframe := chooseVector_frame (withCpu (afterPushes s) s.cpu.dispatched)
  refine ⟨_, afterPushes s, step_dispatch hi hh hstop hime hpending, rfl, congrArg State.cpu hframe, ?frame,
    fun hnone => ?none, fun i hi5 hbit hlow => ?source⟩
  case frame => rw [hframe]; rfl
  case none =>
    rw [chooseVector_of_not_pending (s := withCpu (afterPushes s) s.cpu.dispatched) hnone]
    exact ⟨rfl, rfl⟩
  case source =>
    rw [chooseVector_of_pending (s := withCpu (afterPushes s) s.cpu.dispatched) hi5 hbit hlow]
    exact ⟨rfl, getLsbD_clearBit _ i hi5⟩

end Sys2Proof.Machine
end

section
/-! SUPPORT. A CPU access of an I/O register at its address (10_state.md R29; 20_memory.md R120), and the interrupt requests of
the units: IF, IE and the request itself (60_exceptions.md R404 to R406), the STAT line (R420), the joypad lines
(61_timer_joypad_serial.md R472, R473). Settles `Obligations.InterruptRegisters`, `Obligations.StatInterruptOnRisingEdge` and
`Obligations.JoypadLinesAndInterrupt`. -/
namespace Sys2Proof.Machine

/-! ### A register at its address -/

/-- The address is that of the register, in both modes (R29). -/
def RegAt (a : Word) (r : IoReg) : Prop := ∃ lo < 0x80, regionOf a = .io lo ∧ ∀ cgb, ioRegAt cgb lo = some r

theorem RegAt.busWrite {a : Word} {r : IoReg} (h : RegAt a r) (s : State) (v : Byte) :
    busWrite s a v = ioWriteReg s r v := by
  obtain ⟨lo, -, ha, hr⟩ := h
  rw [busWrite_of_region ha, busWriteRegion, ioWrite, hr]

theorem RegAt.busRead {a : Word} {r : IoReg} (h : RegAt a r) (s : State) : busRead s a = ioReadReg s r := by
  obtain ⟨lo, -, ha, hr⟩ := h
  rw [busRead_topPage s (by have := regionOf_eq_io ha; omega), rawRead_of_region ha, rawReadRegion, ioRead, hr]

theorem regAt_if : RegAt 0xFF0F#16 .if_ := ⟨0x0F, by decide⟩

/-! ### IF, IE and a request -/

theorem getLsbD_request (q : Irq) {i j : Nat} (hi : i < 5) (hj : j < 5) :
    (q.request i).pend.getLsbD j = (q.pend.getLsbD j || decide (j = i)) := by
  have hone : ∀ i < 5, ∀ j < 5, (1#5 <<< i).getLsbD j = decide (j = i) := by decide
  rw [Irq.request, BitVec.getLsbD_or, hone i hi j hj]

theorem getLsbD_requestIf (q : Irq) (b : Bool) {i j : Nat} (hi : i < 5) (hj : j < 5) :
    (q.requestIf b i).pend.getLsbD j = (q.pend.getLsbD j || (b && decide (j = i))) := by
  cases b with
  | false => exact (Bool.or_false _).symm
  | true => exact getLsbD_request q hi hj

theorem Irq.readIf_eq (q : Irq) : q.readIf = 0xE0#8 ||| q.pend.setWidth 8 := by
  unfold Irq.readIf
  generalize q.pend = p
  revert p; decide

/-- The low bits of a byte (00_scope.md R9). -/
theorem extractLsb'_zero_eq_setWidth (v : Byte) (n : Nat) : v.extractLsb' 0 n = v.setWidth n :=
  BitVec.eq_of_toNat_eq (by simp)

/-- Settles O46: IF is a register of the I/O page, IE stands at the last address. -/
theorem interruptRegisters : Obligations.InterruptRegisters := by
  intro s v
  have hie : regionOf 0xFFFF#16 = .ie := by decide
  refine ⟨?readIf, ?writeIf, ?readIe, busWrite_of_region hie v, fun i j hi hj => getLsbD_request s.irq hi hj⟩
  case readIf => exact (regAt_if.busRead s).trans s.irq.readIf_eq
  case writeIf => rw [regAt_if.busWrite, ioWriteReg, Irq.writeIf, extractLsb'_zero_eq_setWidth]
  case readIe => exact (busRead_topPage s (by decide)).trans (rawRead_of_region hie)

/-! ### The STAT line -/

/-- The latch follows the line; a rising edge requests interrupt 1 and nothing else is requested (R420). -/
theorem Irq.statUpdate_statLine (q : Irq) (line : Bool) : (q.statUpdate line).statLine = line := rfl

theorem getLsbD_statUpdate (q : Irq) (line : Bool) {j : Nat} (hj : j < 5) :
    (q.statUpdate line).pend.getLsbD j = (q.pend.getLsbD j || (!q.statLine && line && decide (j = 1))) :=
  getLsbD_requestIf q _ (by decide) hj

/-- The interrupts that a dot requests: VBlank by the PPU, and the STAT interrupt by its line (20_memory.md R108). -/
theorem getLsbD_tickSlow_pend (s : State) {j : Nat} (hj : j < 5) :
    (tickSlow s).irq.pend.getLsbD j =
      (s.irq.pend.getLsbD j || ((ppuTick s).vblank && decide (j = 0)) ||
        (!s.irq.statLine && (tickSlow s).ppu.statLine && decide (j = 1))) := by
  rw [← getLsbD_requestIf s.irq _ (by decide) hj]
  exact getLsbD_statUpdate (s.irq.requestIf (ppuTick s).vblank 0) _ hj

/-- Settles O45: the request of a dot is that of the STAT line. -/
theorem statInterruptOnRisingEdge : Obligations.StatInterruptOnRisingEdge := by
  intro s t p line
  have hline : (tickSlow s).ppu.statLine = line := rfl
  refine ⟨rfl, ?_⟩
  rw [getLsbD_tickSlow_pend s (by decide), hline]
  simp

/-! ### The joypad -/

/-- A key of a selected group is held on line `i` (R472). -/
def keyHeld (keys : Byte) (sel : BitVec 2) (i : Nat) : Bool :=
  (!sel.getLsbD 0 && keys.getLsbD i) || (!sel.getLsbD 1 && keys.getLsbD (4 + i))

theorem getLsbD_joyLines (keys : Byte) (sel : BitVec 2) {i : Nat} (hi : i < 4) :
    (joyLines keys sel).getLsbD i = !keyHeld keys sel i := by
  have hgroup : ∀ (b : Bool) (x : BitVec 4), (if b then 0#4 else x).getLsbD i = (!b && x.getLsbD i) := by
    intro b x; cases b <;> simp
  unfold joyLines keyHeld
  simp [hgroup, hi, -BitVec.getLsbD_eq_getElem]

/-- A line falls where it was 1 and a key holds it down (R472). -/
theorem joypadUpdate_interrupt (j : Joypad) (keys : Byte) :
    (j.update keys).2 = true ↔ ∃ i < 4, j.lines.getLsbD i = true ∧ keyHeld keys j.p1Sel i = true := by
  have hne : ∀ m : BitVec 4, (m != 0#4) = true ↔ ∃ i < 4, m.getLsbD i = true := by decide
  show (j.lines &&& ~~~(joyLines keys j.p1Sel) != 0#4) = true ↔ _
  rw [hne]
  refine exists_congr fun i => and_congr_right fun hi => ?_
  rw [BitVec.getLsbD_and, BitVec.getLsbD_not, getLsbD_joyLines keys j.p1Sel hi, decide_eq_true hi, Bool.true_and,
    Bool.not_not, Bool.and_eq_true]

theorem nextKeys_keys (i : Inputs) : i.nextKeys.keys = i.keysIn.headD i.keys := by
  unfold Inputs.nextKeys
  split <;> (rename_i h; rw [h]; rfl)

theorem tickFast_inputs (k : Nat) (s : State) : (tickFast k s).inputs = s.inputs.nextKeys := by
  unfold tickFast; split <;> rfl

theorem tickFast_joy (k : Nat) (s : State) : (tickFast k s).joy = (s.joy.update s.inputs.nextKeys.keys).1 := by
  unfold tickFast; split <;> rfl

theorem tickFast_irq (k : Nat) (s : State) :
    (tickFast k s).irq =
      (s.irq.requestIf (s.joy.update s.inputs.nextKeys.keys).2 4).requestIf s.timer.tick.2 2 := by
  unfold tickFast; split <;> rfl

/-- The interrupts that a T-cycle requests: the joypad's, and the timer's (20_memory.md R108). -/
theorem getLsbD_tickFast_pend (k : Nat) (s : State) {j : Nat} (hj : j < 5) :
    (tickFast k s).irq.pend.getLsbD j =
      (s.irq.pend.getLsbD j || ((s.joy.update s.inputs.nextKeys.keys).2 && decide (j = 4)) ||
        (s.timer.tick.2 && decide (j = 2))) := by
  rw [tickFast_irq, getLsbD_requestIf _ _ (by decide) hj, getLsbD_requestIf _ _ (by decide) hj]

/-- Settles O44 (log entry 4): the T-cycle takes the next keys of the schedule and updates the lines with them. -/
theorem joypadLinesAndInterrupt : Obligations.JoypadLinesAndInterrupt := by
  intro k s keys t held
  have hkeys : s.inputs.nextKeys.keys = keys := nextKeys_keys s.inputs
  have hjoy : t.joy = (s.joy.update keys).1 := hkeys ▸ tickFast_joy k s
  refine ⟨fun i hi => ?lines, ?sel, ?keys, ?keysIn, ?interrupt⟩
  case lines => rw [hjoy]; exact getLsbD_joyLines keys s.joy.p1Sel hi
  case sel => rw [hjoy]; rfl
  case keys => exact (congrArg Inputs.keys (tickFast_inputs k s)).trans hkeys
  case keysIn => exact (tickFast_keysIn k s).trans List.drop_one
  case interrupt =>
    rw [getLsbD_tickFast_pend k s (by decide), hkeys]
    simp only [decide_true, Bool.and_true, Bool.or_eq_true, joypadUpdate_interrupt]
    simp [held, keyHeld]

end Sys2Proof.Machine
end

section
/-! SUPPORT. The timer (61_timer_joypad_serial.md R451 to R460): the watched signal as a bit of the divider, its falling edges,
and the count of a whole period. Settles `Obligations.TimerEdgesAndOverflow` and `Obligations.TimerCountsOncePerPeriod`. -/
namespace Sys2Proof.Machine

/-! ### Edges and overflow -/

theorem regAt_div : RegAt 0xFF04#16 .div := ⟨0x04, by decide⟩
theorem regAt_tac : RegAt 0xFF07#16 .tac := ⟨0x07, by decide⟩

/-- The signal of a divider that is 0 is 0. -/
theorem signal_of_div16_zero {t : Timer} (h : t.div16 = 0#16) : t.signal = false := by
  rw [Timer.signal, h, BitVec.getLsbD_zero, Bool.and_false]

/-- A write of DIV counts exactly if the signal was 1 (R452). -/
theorem divReset_eq (t : Timer) :
    t.divReset = if t.signal then Timer.increment { t with div16 := 0#16 } else { t with div16 := 0#16 } := by
  rw [Timer.divReset, Timer.edge, signal_of_div16_zero (t := { t with div16 := 0#16 }) rfl, Bool.not_false, Bool.and_true]

theorem latch_of_le_one {t : Timer} (h : t.reload ≤ 1) :
    t.latch = (if t.reload = 1 then { t with reload := 0, tima := t.tma } else t, decide (t.reload = 1)) := by
  unfold Timer.latch
  split
  · rename_i h0; rw [h0]; rfl
  · rw [show t.reload = 1 by omega]; rfl

theorem tickFast_timer (k : Nat) (s : State) : (tickFast k s).timer = s.timer.tick.1 := by
  unfold tickFast; split <;> rfl

/-- Settles O43: each write and each T-cycle is `Timer.edge` between the timer before and after it. -/
theorem timerEdgesAndOverflow : Obligations.TimerEdgesAndOverflow := by
  unfold Obligations.TimerEdgesAndOverflow
  intro signal count
  refine ⟨fun s v => ?div, fun s v => ?tac, fun k s => ?_⟩
  case div =>
    rw [regAt_div.busWrite, ioWriteReg, divReset_eq]
    rfl
  case tac => exact regAt_tac.busWrite s v
  intro t0 t1 hreload
  have htick : s.timer.tick = (t0.edge t1, decide (s.timer.reload = 1)) := by
    rw [Timer.tick, latch_of_le_one hreload]
  constructor
  · rw [tickFast_timer, htick]
    rfl
  · rw [getLsbD_tickFast_pend k s (by decide), htick]
    simp

/-! ### A whole period -/

/-- The T-cycles between two falling edges of the selected divider bit (R453). -/
def timerPeriod (sel : Nat) : Nat := 2 ^ (timerBit sel + 1)

/-- The selected bit falls exactly when the divider comes to a multiple of the bit's period. -/
theorem timerBit_falls_iff (sel : Nat) (d : Word) :
    (d.getLsbD (timerBit sel) && !(d + 1#16).getLsbD (timerBit sel)) = decide (timerPeriod sel ∣ d.toNat + 1) := by
  have hsucc : (d + 1#16).toNat = (d.toNat + 1) % 65536 := BitVec.toNat_add d 1#16
  rw [Bool.eq_iff_iff]
  simp only [BitVec.getLsbD, Nat.testBit_eq_decide_div_mod_eq, hsucc, Bool.and_eq_true, Bool.not_eq_true',
    decide_eq_true_eq, decide_eq_false_iff_not, timerPeriod, Nat.dvd_iff_mod_eq_zero]
  unfold timerBit
  split <;> simp only [Nat.reduceAdd, Nat.reducePow] <;> omega

/-- The timer `n` T-cycles on, `c` counts higher. -/
def Timer.later (t : Timer) (c n : Nat) : Timer :=
  { t with tima := t.tima + BitVec.ofNat 8 c, div16 := t.div16 + BitVec.ofNat 16 n }

theorem later_zero (t : Timer) : t.later 0 0 = t := by
  rw [Timer.later, BitVec.add_zero, BitVec.add_zero]

theorem div16_later_succ (t : Timer) (c n : Nat) : (t.later c n).div16 + 1#16 = t.div16 + BitVec.ofNat 16 (n + 1) := by
  rw [Timer.later, BitVec.add_assoc, BitVec.ofNat_add]

theorem tick_of_reload_zero {t : Timer} (h : t.reload = 0) : t.tick.1 = t.edge { t with div16 := t.div16 + 1#16 } := by
  rw [Timer.tick, Timer.latch, if_pos h]

/-- A disabled timer counts the divider only (R456). -/
theorem tick_of_disabled {t : Timer} (h : t.tac.getLsbD 2 = false) (hreload : t.reload = 0) :
    t.tick.1 = { t with div16 := t.div16 + 1#16 } := by
  rw [tick_of_reload_zero hreload, Timer.edge, Timer.signal, h]
  rfl

theorem timerPeriod_dvd (sel : Nat) : timerPeriod sel ∣ 65536 := by
  unfold timerPeriod timerBit
  split <;> decide

/-- The wrap of the divider is no edge of its own. -/
theorem dvd_mod_add_one_iff {p m x : Nat} (h : p ∣ m) : p ∣ x % m + 1 ↔ p ∣ x + 1 := by
  conv_rhs => rw [← Nat.div_add_mod x m, Nat.add_assoc]
  exact (Nat.dvd_add_right (Dvd.dvd.mul_right h _)).symm

theorem signal_falls_iff {t : Timer} (hen : t.tac.getLsbD 2 = true) :
    (t.signal && !Timer.signal { t with div16 := t.div16 + 1#16 }) =
      decide (timerPeriod (t.tac.toNat % 4) ∣ t.div16.toNat + 1) := by
  rw [← timerBit_falls_iff]
  simp only [Timer.signal, hen, Bool.true_and]

/-- How often an enabled timer counts in `n` T-cycles: the multiples of its period that the divider passes. -/
def Timer.countsIn (t : Timer) (n : Nat) : Nat :=
  (t.div16.toNat + n) / timerPeriod (t.tac.toNat % 4) - t.div16.toNat / timerPeriod (t.tac.toNat % 4)

theorem countsIn_zero (t : Timer) : t.countsIn 0 = 0 := Nat.sub_self _

theorem countsIn_succ (t : Timer) (n : Nat) :
    t.countsIn (n + 1) =
      t.countsIn n + if timerPeriod (t.tac.toNat % 4) ∣ t.div16.toNat + n + 1 then 1 else 0 := by
  have hle := Nat.div_le_div_right (c := timerPeriod (t.tac.toNat % 4)) (Nat.le_add_right t.div16.toNat n)
  rw [Timer.countsIn, ← Nat.add_assoc, Nat.succ_div, Nat.sub_add_comm hle]
  rfl

theorem countsIn_period (t : Timer) : t.countsIn (timerPeriod (t.tac.toNat % 4)) = 1 := by
  have hpos : 0 < timerPeriod (t.tac.toNat % 4) := Nat.two_pow_pos _
  rw [Timer.countsIn, Nat.add_div_right _ hpos, Nat.add_sub_cancel_left]

/-- One T-cycle of an enabled timer that does not overflow in it (R451). -/
theorem tick_later {t : Timer} (hen : t.tac.getLsbD 2 = true) (hreload : t.reload = 0) {c n : Nat}
    (h : t.tima.toNat + (c + if timerPeriod (t.tac.toNat % 4) ∣ t.div16.toNat + n + 1 then 1 else 0) ≤ 255) :
    (t.later c n).tick.1 =
      t.later (c + if timerPeriod (t.tac.toNat % 4) ∣ t.div16.toNat + n + 1 then 1 else 0) (n + 1) := by
  have hdvd : timerPeriod (t.tac.toNat % 4) ∣ (t.later c n).div16.toNat + 1 ↔
      timerPeriod (t.tac.toNat % 4) ∣ t.div16.toNat + n + 1 := by
    rw [Timer.later, BitVec.toNat_add, BitVec.toNat_ofNat, Nat.add_mod_mod]
    exact dvd_mod_add_one_iff (timerPeriod_dvd _)
  have htima : (t.later c n).tima + 1#8 = t.tima + BitVec.ofNat 8 (c + 1) := by
    rw [Timer.later, BitVec.add_assoc, BitVec.ofNat_add]
  rw [tick_of_reload_zero (t := t.later c n) hreload, Timer.edge, signal_falls_iff (t := t.later c n) hen,
    div16_later_succ, show (t.later c n).tac = t.tac from rfl]
  simp only [hdvd, decide_eq_true_eq]
  split
  · rename_i hcount
    rw [if_pos hcount] at h
    have hfull : (t.later c n).tima ≠ 0xFF#8 := by
      rw [ne_eq, ← BitVec.toNat_inj, Timer.later, BitVec.toNat_add, BitVec.toNat_ofNat, BitVec.toNat_ofNat]
      omega
    rw [Timer.increment, if_neg hfull, htima]
    rfl
  · rfl

/-- An enabled timer that does not overflow in `n` T-cycles. -/
theorem tick_iterate {t : Timer} (hen : t.tac.getLsbD 2 = true) (hreload : t.reload = 0) {n : Nat}
    (h : t.tima.toNat + t.countsIn n ≤ 255) : (fun u : Timer => u.tick.1)^[n] t = t.later (t.countsIn n) n := by
  induction n with
  | zero => rw [countsIn_zero, later_zero]; rfl
  | succ n ih =>
    rw [countsIn_succ] at h ⊢
    rw [Function.iterate_succ_apply', ih (by omega)]
    exact tick_later hen hreload h

theorem tick_iterate_of_disabled {t : Timer} (hen : t.tac.getLsbD 2 = false) (hreload : t.reload = 0) (n : Nat) :
    (fun u : Timer => u.tick.1)^[n] t = t.later 0 n := by
  induction n with
  | zero => exact (later_zero t).symm
  | succ n ih =>
    rw [Function.iterate_succ_apply', ih, tick_of_disabled (t := t.later 0 n) hen hreload, div16_later_succ]
    rfl

/-- The periods of R453. -/
theorem timerPeriod_eq (sel : Nat) :
    timerPeriod sel = match sel with | 0 => 1024 | 1 => 16 | 2 => 64 | _ => 256 := by
  match sel with
  | 0 | 1 | 2 | _ + 3 => rfl

/-- Settles O42: a whole period holds one falling edge, from any phase. -/
theorem timerCountsOncePerPeriod : Obligations.TimerCountsOncePerPeriod := by
  refine ⟨fun t hen hreload htima => ?enabled, fun t n hen hreload => ?disabled⟩
  case disabled => rw [tick_iterate_of_disabled hen hreload, Timer.later, BitVec.add_zero]
  intro period
  have hperiod : period = timerPeriod (t.tac.toNat % 4) := (timerPeriod_eq _).symm
  have hcount := countsIn_period t
  rw [hperiod, tick_iterate hen hreload (by omega), hcount]
  rfl

end Sys2Proof.Machine
end

section
/-! SUPPORT. OAM DMA (62_dma_hdma.md R480 to R483): what the passing of time leaves alone of the memory behind an address, the
engine and OAM after one M-cycle, and the copy by induction on the M-cycles. Settles `Obligations.OamDmaTransfer`. -/
namespace Sys2Proof.Machine

open Sys2Proof.Config

/-! ### Memory that time and HDMA leave alone -/

/-- The address reaches neither video RAM nor OAM nor an I/O register. -/
def Steady (a : Nat) : Prop :=
  ¬ (0x8000 ≤ a ∧ a < 0xA000) ∧ ¬ (0xFE00 ≤ a ∧ a < 0xFEA0) ∧ ¬ (0xFF00 ≤ a ∧ a < 0xFF80)

/-- `t` holds what `s` holds behind every steady address. -/
structure SameMemory (s t : State) : Prop where
  cgb : t.cgb = s.cgb
  banks : t.banks = s.banks
  cart : t.cart = s.cart
  wram : t.wram = s.wram
  hram : t.hram = s.hram
  ie : t.irq.ie = s.irq.ie

theorem SameMemory.refl (s : State) : SameMemory s s := ⟨rfl, rfl, rfl, rfl, rfl, rfl⟩

theorem SameMemory.trans {s t u : State} (h : SameMemory s t) (h' : SameMemory t u) : SameMemory s u :=
  ⟨h'.cgb.trans h.cgb, h'.banks.trans h.banks, h'.cart.trans h.cart, h'.wram.trans h.wram, h'.hram.trans h.hram,
   h'.ie.trans h.ie⟩

theorem SameMemory.vramOff {s t : State} (h : SameMemory s t) (off : Nat) : t.vramOff off = s.vramOff off := by
  unfold State.vramOff
  rw [h.cgb, h.banks]

/-- Video RAM and OAM are no echo of anything (20_memory.md R114, R116, R117). -/
theorem toNat_of_unEcho {a : Word} (h : unEcho a.toNat < 0xC000 ∨ 0xE000 ≤ unEcho a.toNat) :
    unEcho a.toNat = a.toNat := by
  unfold unEcho at h ⊢
  split at h
  · omega
  · rename_i hecho; rw [if_neg hecho]

theorem regionOf_eq_vram {a : Word} {off : Nat} (h : regionOf a = .vram off) : 0x8000 ≤ a.toNat ∧ a.toNat < 0xA000 := by
  have hecho := toNat_of_unEcho (a := a)
  unfold regionOf at h
  generalize unEcho a.toNat = n at h hecho
  unfold regionOfPlain at h
  split_ifs at h
  omega

theorem regionOf_eq_oam {a : Word} {off : Nat} (h : regionOf a = .oam off) : 0xFE00 ≤ a.toNat ∧ a.toNat < 0xFEA0 := by
  have hecho := toNat_of_unEcho (a := a)
  unfold regionOf at h
  generalize hn : unEcho a.toNat = n at h hecho
  unfold regionOfPlain at h
  split_ifs at h
  unfold unEcho at hn
  split at hn <;> omega

theorem SameMemory.rawRead {s t : State} (h : SameMemory s t) {a : Word} (ha : Steady a.toNat) :
    rawRead t a = rawRead s a := by
  obtain ⟨hvram, hoam, hio⟩ := ha
  unfold Machine.rawRead
  cases hr : regionOf a with
  | vram off => exact absurd (regionOf_eq_vram hr) hvram
  | oam off => exact absurd (regionOf_eq_oam hr) hoam
  | io lo => exact absurd (regionOf_eq_io hr) (by omega)
  | rom x => exact congrArg (Cart.read · x) h.cart
  | cartRam x => exact congrArg (Cart.read · x) h.cart
  | wram0 off => exact congrArg (Store.read · off) h.wram
  | wramN off =>
    unfold rawReadRegion State.wramOff State.wBank
    rw [h.wram, h.cgb, h.banks]
  | unusable => rfl
  | hram off => exact congrArg (Store.read · off) h.hram
  | ie => exact h.ie

/-- Below the echo the source of a copy is video RAM, which time leaves alone too, or steady. -/
theorem SameMemory.rawRead_of_vram {s t : State} (h : SameMemory s t) (hvram : t.vram = s.vram) {a : Word}
    (ha : a.toNat < 0xE000) : Machine.rawRead t a = Machine.rawRead s a := by
  by_cases hv : 0x8000 ≤ a.toNat ∧ a.toNat ≤ 0x9FFF
  · rw [rawRead_of_region (regionOf_vram hv.1 hv.2), rawRead_of_region (regionOf_vram hv.1 hv.2), rawReadRegion,
      rawReadRegion, hvram, h.vramOff]
  · exact h.rawRead ⟨by omega, by omega, by omega⟩

theorem requestIf_ie (q : Irq) (b : Bool) (i : Nat) : (q.requestIf b i).ie = q.ie := rfl

theorem sameMemory_tickFast (k : Nat) (s : State) : SameMemory s (tickFast k s) := by
  unfold tickFast
  dsimp only
  split <;> exact ⟨rfl, rfl, rfl, rfl, rfl, rfl⟩

theorem sameMemory_tickSlow (s : State) : SameMemory s (tickSlow s) := ⟨rfl, rfl, rfl, rfl, rfl, rfl⟩

theorem sameMemory_advanceM (s : State) : SameMemory s (advanceM s) :=
  advanceM_keeps (P := SameMemory s) (fun k t h => h.trans (sameMemory_tickFast k t))
    (fun t h => h.trans (sameMemory_tickSlow t)) s (.refl s)

/-! ### One M-cycle of the engine -/

/-- The state whose byte the engine reads in an M-cycle: the units before it in the T-cycle have advanced (20_memory.md R108). -/
def dmaReadState (s : State) : State :=
  { s with
    inputs := s.inputs.nextKeys
    joy := (s.joy.update s.inputs.nextKeys.keys).1
    timer := s.timer.tick.1
    irq := (s.irq.requestIf (s.joy.update s.inputs.nextKeys.keys).2 4).requestIf s.timer.tick.2 2 }

theorem tickFast_zero (s : State) : tickFast 0 s = oamDmaStep (dmaReadState s) := rfl

/-- Only the first T-cycle of an M-cycle moves the engine. -/
theorem tickFast_dma_oam {k : Nat} (hk : k ≠ 0) (s : State) :
    (tickFast k s).dma = s.dma ∧ (tickFast k s).oam = s.oam := by
  unfold tickFast
  rw [if_neg hk]
  exact ⟨rfl, rfl⟩

theorem tickT_dma_oam (k : Nat) (s : State) :
    (tickT k s).dma = (tickFast k s).dma ∧ (tickT k s).oam = (tickFast k s).oam := by
  unfold tickT
  split <;> exact ⟨rfl, rfl⟩

theorem advanceM_dma_oam (s : State) :
    (advanceM s).dma = (oamDmaStep (dmaReadState s)).dma ∧ (advanceM s).oam = (oamDmaStep (dmaReadState s)).oam := by
  have hlater : ∀ k ≠ 0, ∀ t, (tickT k t).dma = t.dma ∧ (tickT k t).oam = t.oam := fun k hk t =>
    ⟨(tickT_dma_oam k t).1.trans (tickFast_dma_oam hk t).1, (tickT_dma_oam k t).2.trans (tickFast_dma_oam hk t).2⟩
  unfold advanceM
  simp only [hlater 3 (by decide), hlater 2 (by decide), hlater 1 (by decide), tickT_dma_oam 0, tickFast_zero, and_self]

/-- While the engine runs, an M-cycle copies its next byte (R483). -/
theorem advanceM_of_dma {s : State} (h : s.dma.active = true) :
    (advanceM s).dma = s.dma.next ∧ (advanceM s).oam = s.oam.write s.dma.idx (oamDmaByte (dmaReadState s)) := by
  rw [(advanceM_dma_oam s).1, (advanceM_dma_oam s).2]
  unfold oamDmaStep
  exact ⟨if_pos h, if_pos h⟩

/-! ### A transfer -/

/-- The first source address for the value `v` of the DMA register (R481, R483). -/
def dmaPage (v : Byte) : Nat := if 0xE0 ≤ v.toNat then (v.toNat - 0x20) * 256 else v.toNat * 256

theorem dmaPage_add_lt (v : Byte) {k : Nat} (hk : k < 160) : dmaPage v + k < 0xE000 := by
  unfold dmaPage
  split <;> omega

theorem dmaSrcAddr_page (v : Byte) {k : Nat} (hk : k < 160) :
    dmaSrcAddr (pair v 0#8 + BitVec.ofNat 16 k) = BitVec.ofNat 16 (dmaPage v + k) := by
  have hv := v.isLt
  have haddr : (pair v 0#8 + BitVec.ofNat 16 k).toNat = v.toNat * 256 + k := by
    rw [BitVec.toNat_add, toNat_pair, BitVec.toNat_ofNat, BitVec.toNat_ofNat]
    omega
  apply BitVec.eq_of_toNat_eq
  unfold dmaSrcAddr dmaPage
  rw [haddr]
  split_ifs <;> bv_omega

/-- `n` M-cycles into the transfer that a write of `v` to the DMA register starts in `s`. -/
structure DmaProgress (s : State) (v : Byte) (n : Nat) (t : State) : Prop where
  canonical : t.Canonical
  memory : SameMemory s t
  vram : t.vram = s.vram
  dma : t.dma = ⟨v, n != dmaLen, pair v 0x00#8, n⟩
  oam : ∀ k < 160, t.oam.read k = if k < n then rawRead s (BitVec.ofNat 16 (dmaPage v + k)) else s.oam.read k

theorem regAt_dma : RegAt 0xFF46#16 .dma := ⟨0x46, by decide⟩

theorem dmaProgress_start {s : State} (h : s.Canonical) (v : Byte) : DmaProgress s v 0 (busWrite s 0xFF46#16 v) := by
  have hcan := busWrite_canonical 0xFF46#16 v h
  rw [regAt_dma.busWrite] at hcan ⊢
  exact ⟨hcan, ⟨rfl, rfl, rfl, rfl, rfl, rfl⟩, rfl, rfl, fun _ _ => rfl⟩

/-- Byte `n` is copied in M-cycle `n`: its source is what it was when the transfer began. -/
theorem DmaProgress.advanceM {s t : State} {v : Byte} {n : Nat} (h : DmaProgress s v n t) (hn : n < 160) :
    DmaProgress s v (n + 1) (advanceM t) := by
  have hrun : t.dma.active = true := by
    rw [h.dma]; exact bne_iff_ne.mpr (Nat.ne_of_lt hn)
  obtain ⟨hdma, hoam⟩ := advanceM_of_dma hrun
  have hread : SameMemory s (dmaReadState t) := h.memory.trans ⟨rfl, rfl, rfl, rfl, rfl, rfl⟩
  have haddr : (BitVec.ofNat 16 (dmaPage v + n)).toNat < 0xE000 :=
    Nat.lt_of_le_of_lt (Nat.mod_le ..) (dmaPage_add_lt v hn)
  have hidx : t.dma.idx = n := by rw [h.dma]
  have hbyte : oamDmaByte (dmaReadState t) = rawRead s (BitVec.ofNat 16 (dmaPage v + n)) := by
    have hsrc : dmaSrcAddr (t.dma.src + BitVec.ofNat 16 t.dma.idx) = BitVec.ofNat 16 (dmaPage v + n) := by
      rw [h.dma]; exact dmaSrcAddr_page v hn
    exact (congrArg (rawRead (dmaReadState t)) hsrc).trans (hread.rawRead_of_vram h.vram haddr)
  refine ⟨advanceM_canonical h.canonical, h.memory.trans (sameMemory_advanceM t), (advanceM_vram t).trans h.vram, ?dma,
    fun k hk => ?oam⟩
  case dma => rw [hdma, h.dma]; rfl
  case oam =>
    rw [hoam, hbyte, hidx, Store.read_write h.canonical.oam, h.oam k hk]
    obtain hlt | rfl | hgt := Nat.lt_trichotomy k n
    · rw [if_neg hlt.ne, if_pos hlt, if_pos (Nat.lt_succ_of_lt hlt)]
    · rw [if_pos rfl, if_pos (Nat.lt_succ_self k)]
    · rw [if_neg hgt.ne', if_neg hgt.not_gt, if_neg (Nat.not_lt.mpr hgt)]

theorem dmaProgress_passM {s : State} (h : s.Canonical) (v : Byte) {n : Nat} (hn : n ≤ 160) :
    DmaProgress s v n (passM n (busWrite s 0xFF46#16 v)) := by
  induction n with
  | zero => exact dmaProgress_start h v
  | succ n ih =>
    rw [← advanceM_passM]
    exact (ih (Nat.le_of_succ_le hn)).advanceM hn

/-- Settles O40: the frame of one M-cycle, and the progress of a transfer. -/
theorem oamDmaTransfer : Obligations.OamDmaTransfer := by
  refine ⟨fun s _ => ?frame, fun s v n k hcan hn hk => ?transfer⟩
  case frame =>
    exact ⟨advanceM_vram s, advanceM_wram s, advanceM_hram s, advanceM_bgpal s, advanceM_obpal s, advanceM_wave s,
      advanceM_cart s, fun h => (advanceM_oam h).2⟩
  case transfer =>
    have hprogress := dmaProgress_passM hcan v hn
    intro src t
    have hdma : t.dma = ⟨v, n != dmaLen, pair v 0x00#8, n⟩ := hprogress.dma
    refine ⟨congrArg OamDma.reg hdma, ?_, hprogress.oam k hk⟩
    rw [hdma]
    exact bne_iff_ne.trans (Nat.lt_iff_le_and_ne.trans (and_iff_right hn)).symm

end Sys2Proof.Machine
end

section
/-! SUPPORT. HDMA (62_dma_hdma.md R490 to R494): a byte of a transfer, a held step, and a block by induction on its bytes.
Settles `Obligations.HdmaCopiesOneBlock`. -/
namespace Sys2Proof.Machine

/-! ### One byte -/

theorem toNat_and_vramMask (w : Word) : (w &&& 0x1FFF#16).toNat = w.toNat % 0x2000 := by
  rw [BitVec.toNat_and]
  exact Nat.and_two_pow_sub_one_eq_mod w.toNat 13

/-- The destination wraps inside the bank (R494). -/
theorem toNat_vramWrap_mod (w : Word) : (0x8000#16 ||| (w &&& 0x1FFF#16)).toNat % 0x2000 = w.toNat % 0x2000 := by
  have hoff : w.toNat % 0x2000 < 2 ^ 15 := by omega
  rw [BitVec.toNat_or, toNat_and_vramMask, show (0x8000#16).toNat = 2 ^ 15 * 1 from rfl,
    ← Nat.two_pow_add_eq_or_of_lt hoff]
  omega

/-- The engine's counters after a byte, field by field (R494). -/
theorem Hdma.next_eq (d : Hdma) :
    d.next =
      { src := d.src + 1#16
        dst := 0x8000#16 ||| ((d.dst + 1#16) &&& 0x1FFF#16)
        byte := if (d.byte + 1 == 16) = true then 0 else d.byte + 1
        blockReq := d.blockReq && !(d.byte + 1 == 16)
        mode := if (d.byte + 1 == 16) = true ∧ d.left = 0#7 then .idle else d.mode
        left := if (d.byte + 1 == 16) = true then (if d.left = 0#7 then 0x7F#7 else d.left - 1#7) else d.left } := by
  unfold Hdma.next
  split
  · rename_i hlast
    simp only [hlast, beq_self_eq_true, Bool.not_true, Bool.and_false, true_and, if_true]
  · rename_i hlast
    simp only [beq_eq_false_iff_ne.mpr hlast, Bool.not_false, Bool.and_true, false_and, if_false, Bool.false_eq_true]

theorem hdmaCopyByte_eq (s : State) :
    hdmaCopyByte s =
      { s with vram := s.vram.write (s.vramOff (s.hdma.dst.toNat % 0x2000)) (rawRead s s.hdma.src), hdma := s.hdma.next } := by
  rw [hdmaCopyByte, toNat_and_vramMask]

/-! ### The bytes of a block -/

/-- The video RAM offset of byte `k` of the block that begins in `s`. -/
def blockOff (s : State) (k : Nat) : Nat := s.vramOff ((s.hdma.dst.toNat + k) % 0x2000)

/-- The source byte `k` of the block that begins in `s`. -/
def blockByte (s : State) (k : Nat) : Byte := rawRead s (s.hdma.src + BitVec.ofNat 16 k)

/-- Video RAM after `j` bytes of the block. -/
def copyBlock (s : State) : Nat → Memory
  | 0 => s.vram
  | j + 1 => (copyBlock s j).write (blockOff s j) (blockByte s j)

theorem copyBlock_wf {s : State} (h : Memory.wf s.vram) (j : Nat) : Memory.wf (copyBlock s j) := by
  induction j with
  | zero => exact h
  | succ j ih => exact Store.wf_write ih ..

theorem blockOff_injective (s : State) {j k : Nat} (hj : j < 16) (hk : k < 16) (h : blockOff s j = blockOff s k) :
    j = k := by
  unfold blockOff State.vramOff at h
  omega

theorem copyBlock_read_of_lt {s : State} (h : Memory.wf s.vram) {j k : Nat} (hj : j ≤ 16) (hk : k < j) :
    (copyBlock s j).read (blockOff s k) = blockByte s k := by
  induction j with
  | zero => exact absurd hk (Nat.not_lt_zero k)
  | succ j ih =>
    rw [copyBlock, Store.read_write (copyBlock_wf h j)]
    obtain rfl | hlt := Nat.eq_or_lt_of_le (Nat.le_of_lt_succ hk)
    · exact if_pos rfl
    · rw [if_neg fun e => hlt.ne (blockOff_injective s (hlt.trans hj) hj e)]
      exact ih (Nat.le_of_succ_le hj) hlt

theorem copyBlock_read_of_ne {s : State} (h : Memory.wf s.vram) {j off : Nat} (hoff : ∀ k < j, off ≠ blockOff s k) :
    (copyBlock s j).read off = s.vram.read off := by
  induction j with
  | zero => rfl
  | succ j ih =>
    rw [copyBlock, Store.read_write_other (copyBlock_wf h j) _ (hoff j (Nat.lt_succ_self j))]
    exact ih fun k hk => hoff k (Nat.lt_succ_of_lt hk)

/-! ### The engine within a block -/

/-- The engine `d`, `j` bytes into the block that the engine `d0` begins; `blockReq` is left out, as time may set it. -/
structure Hdma.InBlock (d0 : Hdma) (j : Nat) (d : Hdma) : Prop where
  src : d.src = d0.src + BitVec.ofNat 16 j
  dst : d.dst.toNat % 0x2000 = (d0.dst.toNat + j) % 0x2000
  byte : d.byte = if j = 16 then 0 else j
  mode : d.mode = if j = 16 ∧ d0.left = 0#7 then .idle else d0.mode
  left : d.left = if j = 16 then (if d0.left = 0#7 then 0x7F#7 else d0.left - 1#7) else d0.left

theorem Hdma.inBlock_zero {d : Hdma} (h : d.byte = 0) : d.InBlock 0 d :=
  ⟨(BitVec.add_zero _).symm, rfl, h, rfl, rfl⟩

theorem Hdma.InBlock.next {d0 d : Hdma} {j : Nat} (h : d0.InBlock j d) (hj : j < 16) : d0.InBlock (j + 1) d.next := by
  have hbyte : d.byte = j := h.byte.trans (if_neg hj.ne)
  have hmode : d.mode = d0.mode := h.mode.trans (if_neg fun e => hj.ne e.1)
  have hleft : d.left = d0.left := h.left.trans (if_neg hj.ne)
  have hlast : (d.byte + 1 == 16) = true ↔ j + 1 = 16 := by rw [hbyte, beq_iff_eq]
  rw [Hdma.next_eq]
  constructor <;> simp only [hlast, hleft]
  case src => rw [h.src, BitVec.add_assoc, BitVec.ofNat_add]
  case dst =>
    have hdst := h.dst
    rw [toNat_vramWrap_mod, BitVec.toNat_add, BitVec.toNat_ofNat]
    omega
  case byte => rw [hbyte]
  case mode => rw [hmode]

theorem Hdma.InBlock.hblankEntry {d0 d : Hdma} {j : Nat} (h : d0.InBlock j d) (cgb : Bool) :
    d0.InBlock j (d.hblankEntry cgb) := { h with }

theorem hdmaHolds_iff (s : State) :
    hdmaHolds s = true ↔ s.cgb = true ∧ (s.hdma.mode = .general ∨ s.hdma.mode = .hblank ∧ s.hdma.blockReq = true) := by
  simp only [hdmaHolds, Bool.and_eq_true, Bool.or_eq_true, beq_iff_eq]

/-- Before the last byte of a block the engine goes on holding the CPU (R493). -/
theorem hdmaHolds_hdmaCopyByte {s : State} (hlast : s.hdma.byte + 1 ≠ 16) : hdmaHolds (hdmaCopyByte s) = hdmaHolds s := by
  unfold hdmaHolds hdmaCopyByte Hdma.next
  rw [if_neg hlast]

/-- No dot takes a hold away: it may only ask for a block (R495). -/
theorem hdmaHolds_tickSlow {s : State} (h : hdmaHolds s = true) : hdmaHolds (tickSlow s) = true := by
  obtain ⟨hcgb, hmode⟩ := (hdmaHolds_iff s).mp h
  rw [hdmaHolds_iff]
  refine ⟨hcgb, ?_⟩
  dsimp only [tickSlow]
  split
  · refine hmode.imp_right fun ⟨hm, hreq⟩ => ⟨hm, ?_⟩
    show (if _ then true else s.hdma.blockReq) = true
    rw [hreq, ite_self]
  · exact hmode

/-! ### A block -/

/-- `t` stands `j` bytes into the block that begins in `s`. -/
structure BlockProgress (s : State) (j : Nat) (t : State) : Prop where
  cpu : t.cpu = s.cpu
  speed : t.speed = s.speed
  memory : SameMemory s t
  vram : t.vram = copyBlock s j
  engine : s.hdma.InBlock j t.hdma
  held : j < 16 → hdmaHolds t = true

theorem blockProgress_zero {s : State} (hbyte : s.hdma.byte = 0) (hh : hdmaHolds s = true) : BlockProgress s 0 s :=
  ⟨rfl, rfl, .refl s, rfl, Hdma.inBlock_zero hbyte, fun _ => hh⟩

section
variable {s t : State} {j : Nat}

theorem BlockProgress.tickFast (k : Nat) (h : BlockProgress s j t) : BlockProgress s j (tickFast k t) where
  cpu := (tickFast_cpu k t).trans h.cpu
  speed := (tickFast_speed k t).trans h.speed
  memory := h.memory.trans (sameMemory_tickFast k t)
  vram := (tickFast_vram k t).trans h.vram
  engine := by rw [tickFast_hdma]; exact h.engine
  held hj := by
    have hheld := h.held hj
    unfold hdmaHolds at hheld ⊢
    rw [tickFast_hdma, tickFast_cgb]; exact hheld

theorem BlockProgress.tickSlow (h : BlockProgress s j t) : BlockProgress s j (tickSlow t) where
  cpu := h.cpu
  speed := h.speed
  memory := h.memory.trans (sameMemory_tickSlow t)
  vram := h.vram
  engine := by
    dsimp only [Machine.tickSlow]
    split
    · exact h.engine.hblankEntry _
    · exact h.engine
  held hj := hdmaHolds_tickSlow (h.held hj)

theorem BlockProgress.advanceM (h : BlockProgress s j t) : BlockProgress s j (advanceM t) :=
  advanceM_keeps (P := BlockProgress s j) (fun k _ h => h.tickFast k) (fun _ h => h.tickSlow) t h

/-- The source bytes of the block are steady. -/
def SteadySource (s : State) : Prop := ∀ k < 16, Steady (s.hdma.src + BitVec.ofNat 16 k).toNat

theorem BlockProgress.copyByte (hsteady : SteadySource s) (h : BlockProgress s j t) (hj : j < 16) :
    BlockProgress s (j + 1) (hdmaCopyByte t) where
  cpu := h.cpu
  speed := h.speed
  memory := h.memory.trans ⟨rfl, rfl, rfl, rfl, rfl, rfl⟩
  vram := by
    have hread : rawRead t t.hdma.src = blockByte s j := by
      rw [h.engine.src]; exact h.memory.rawRead (hsteady j hj)
    rw [hdmaCopyByte_eq, copyBlock, ← hread, ← h.vram, blockOff, ← h.engine.dst, h.memory.vramOff]
  engine := h.engine.next hj
  held hj' := by
    have hbyte : t.hdma.byte = j := h.engine.byte.trans (if_neg hj.ne)
    rw [hdmaHolds_hdmaCopyByte (by omega)]
    exact h.held hj

/-- The bytes that one held step copies (R494). -/
def bytesPerStep (s : State) : Nat := if s.speed.doubleSpeed = true then 1 else 2

theorem BlockProgress.step (hi : s.cpu.illegal = false) (hsteady : SteadySource s) (h : BlockProgress s j t)
    (hj : j + bytesPerStep s ≤ 16) :
    ∃ u, step t = .next u ∧ BlockProgress s (j + bytesPerStep s) u := by
  unfold bytesPerStep at hj ⊢
  have hlt : j < 16 := by split at hj <;> omega
  refine ⟨_, step_held (by rw [h.cpu]; exact hi) (h.held hlt), BlockProgress.advanceM ?_⟩
  rw [h.speed]
  split at hj
  · rw [if_pos ‹_›, if_pos ‹_›]
    exact h.copyByte hsteady hlt
  · rw [if_neg ‹_›, if_neg ‹_›]
    exact (h.copyByte hsteady hlt).copyByte hsteady hj

theorem BlockProgress.runSteps (hi : s.cpu.illegal = false) (hsteady : SteadySource s) {m : Nat}
    (h : BlockProgress s j t) (hm : j + m * bytesPerStep s = 16) :
    ∃ u, runSteps m t = .next u ∧ BlockProgress s 16 u := by
  induction m generalizing j t with
  | zero =>
    rw [Nat.zero_mul, Nat.add_zero] at hm
    exact ⟨t, rfl, hm ▸ h⟩
  | succ m ih =>
    rw [Nat.succ_mul] at hm
    obtain ⟨u, hstep, hu⟩ := h.step hi hsteady (by omega)
    obtain ⟨w, hrun, hw⟩ := ih hu (by omega)
    exact ⟨w, by rw [Machine.runSteps, hstep]; exact hrun, hw⟩

end

/-- Settles O41: a held step is `HdmaStepM()`; a block is its sixteen bytes. -/
theorem hdmaCopiesOneBlock : Obligations.HdmaCopiesOneBlock := by
  refine ⟨fun s hi hh => ?step, fun s hcan hi hh hbyte => ?block⟩
  case step =>
    intro one
    have hone : ∀ u, one u = hdmaCopyByte u := fun u => by rw [hdmaCopyByte_eq, Hdma.next_eq]
    rw [hone, hone]
    exact step_held hi hh
  case block =>
    intro still hsteady
    have hcount : 0 + (if s.speed.doubleSpeed = true then 16 else 8) * bytesPerStep s = 16 := by
      unfold bytesPerStep; split <;> rfl
    obtain ⟨t, hrun, ht⟩ := (blockProgress_zero hbyte hh).runSteps hi hsteady hcount
    refine ⟨t, hrun, ht.cpu, ht.engine.src, ht.engine.byte, fun hlast => ⟨?_, ?_⟩, fun hmore => ⟨?_, ?_⟩,
      fun k hk => ?_, fun off hoff => ?_⟩
    · rw [ht.engine.mode, if_pos ⟨rfl, hlast⟩]
    · rw [ht.engine.left, if_pos rfl, if_pos hlast]
    · rw [ht.engine.mode, if_neg fun e => hmore e.2]
    · rw [ht.engine.left, if_pos rfl, if_neg hmore]
    · rw [ht.vram]; exact copyBlock_read_of_lt hcan.vram (Nat.le_refl 16) hk
    · rw [ht.vram]; exact copyBlock_read_of_ne hcan.vram hoff

end Sys2Proof.Machine
end

section
/-! SUPPORT. The PPU: the LCD switch (63_ppu.md R528 to R530), the OAM scan (R536), the position in the frame (R511, R520, R523,
R524) and the length of mode 3 (R512, R522, R525, R540). Settles `Obligations.LcdSwitch`, `Obligations.OamScanSelectsTen`,
`Obligations.FramePosition` and `Obligations.ModeThreeLength`. -/
namespace Sys2Proof.Machine

open Sys2Proof.Config

/-! ### The LCD switch -/

theorem regAt_lcdc : RegAt 0xFF40#16 .lcdc := ⟨0x40, by decide⟩

section
variable (oam : Memory) (p : Ppu) {v : Byte}

theorem writeLcdc_off (hp : bit p.lcdc 7 = true) (hv : bit v 7 = false) :
    p.writeLcdc oam v = Ppu.lcdDisable { p with lcdc := v } := by
  rw [Ppu.writeLcdc, hp, hv]; rfl

theorem writeLcdc_on (hp : bit p.lcdc 7 = false) (hv : bit v 7 = true) :
    p.writeLcdc oam v = Ppu.lcdEnable oam { p with lcdc := v } := by
  rw [Ppu.writeLcdc, hp, hv]; rfl

theorem writeLcdc_same (h : bit p.lcdc 7 = bit v 7) : p.writeLcdc oam v = { p with lcdc := v } := by
  rw [Ppu.writeLcdc, h, Bool.and_not_self, Bool.not_and_self]; rfl

end

theorem writeLcdc_kept (oam : Memory) (p : Ppu) (v : Byte) :
    (p.writeLcdc oam v).lcdc = v ∧ (p.writeLcdc oam v).frameDone = p.frameDone := by
  unfold Ppu.writeLcdc
  dsimp only
  split
  · exact ⟨rfl, rfl⟩
  · split <;> exact ⟨rfl, rfl⟩

/-- The window trigger after the LCD is switched on: scanline 0 is that of WY (R521, R529). -/
theorem lcdEnable_winYTrig (oam : Memory) (p : Ppu) : (p.lcdEnable oam).winYTrig = true ↔ p.wy = 0#8 := by
  show (false || 0 == p.wy.toNat) = true ↔ _
  rw [Bool.false_or, beq_iff_eq, eq_comm]
  exact (BitVec.toNat_eq (y := 0#8)).symm

theorem ppuTick_of_off {s : State} (h : s.ppu.lcdOn = false) : ppuTick s = ⟨s.ppu, false, false, false⟩ := by
  rw [ppuTick, h]; rfl

/-- Settles O50: the three cases of bit 7. -/
theorem lcdSwitch : Obligations.LcdSwitch := by
  intro s v
  rw [regAt_lcdc.busWrite]
  intro t
  obtain ⟨hlcdc, hframe⟩ := writeLcdc_kept s.oam s.ppu v
  refine ⟨hlcdc, rfl, writeLcdc_fb .., hframe, fun hp hv => ?off, fun hp hv => ?on, writeLcdc_same s.oam s.ppu,
    fun h => congrArg PpuOut.ppu (ppuTick_of_off h)⟩
  case off =>
    have ht : t.ppu = Ppu.lcdDisable _ := writeLcdc_off s.oam s.ppu hp hv
    rw [ht]
    exact ⟨rfl, rfl, rfl, rfl, rfl⟩
  case on =>
    have ht : t.ppu = Ppu.lcdEnable _ _ := writeLcdc_on s.oam s.ppu hp hv
    rw [ht]
    exact ⟨rfl, rfl, rfl, rfl, rfl, rfl, rfl, rfl, lcdEnable_winYTrig _ _⟩

/-! ### The OAM scan -/

/-- The drawing order of R536: ascending `x`, equal `x` by OAM index. -/
def Sprite.Before (t u : Sprite) : Prop := t.x.toNat < u.x.toNat ∨ (t.x = u.x ∧ t.idx < u.idx)

theorem insertSprite_perm (t : Sprite) (us : List Sprite) : (insertSprite t us).Perm (t :: us) := by
  induction us with
  | nil => exact .refl _
  | cons u us ih =>
    unfold insertSprite
    split
    · exact .refl _
    · exact (ih.cons u).trans (.swap t u us)

theorem sortSprites_perm (ts : List Sprite) : (sortSprites ts).Perm ts := by
  induction ts with
  | nil => exact .refl _
  | cons t ts ih => exact (insertSprite_perm t _).trans (ih.cons t)

theorem Sprite.Before.of_le {t u : Sprite} (hx : t.x.toNat ≤ u.x.toNat) (hidx : t.idx < u.idx) : t.Before u :=
  (Nat.lt_or_eq_of_le hx).imp_right fun h => ⟨BitVec.eq_of_toNat_eq h, hidx⟩

theorem Sprite.Before.le {t u : Sprite} (h : t.Before u) : t.x.toNat ≤ u.x.toNat := by
  obtain h | ⟨h, -⟩ := h
  · exact h.le
  · exact (congrArg BitVec.toNat h).le

/-- A sprite that precedes all others in OAM is put before those of equal `x`. -/
theorem insertSprite_pairwise {t : Sprite} {us : List Sprite} (hidx : ∀ u ∈ us, t.idx < u.idx)
    (h : us.Pairwise Sprite.Before) : (insertSprite t us).Pairwise Sprite.Before := by
  induction us with
  | nil => exact List.pairwise_singleton ..
  | cons u us ih =>
    obtain ⟨hu, hus⟩ := List.pairwise_cons.mp h
    unfold insertSprite
    split
    · rename_i hle
      refine List.pairwise_cons.mpr ⟨fun w hw => ?_, h⟩
      refine .of_le ?_ (hidx w hw)
      obtain rfl | hw := List.mem_cons.mp hw
      · exact hle
      · exact hle.trans (hu w hw).le
    · rename_i hlt
      refine List.pairwise_cons.mpr ⟨fun w hw => ?_, ih (fun w hw => hidx w (List.mem_cons_of_mem u hw)) hus⟩
      obtain rfl | hw := List.mem_cons.mp ((insertSprite_perm t us).mem_iff.mp hw)
      · exact .inl (Nat.lt_of_not_le hlt)
      · exact hu w hw

theorem sortSprites_pairwise {ts : List Sprite} (h : ts.Pairwise (·.idx < ·.idx)) :
    (sortSprites ts).Pairwise Sprite.Before := by
  induction ts with
  | nil => exact .nil
  | cons t ts ih =>
    obtain ⟨ht, hts⟩ := List.pairwise_cons.mp h
    exact insertSprite_pairwise (fun u hu => ht u ((sortSprites_perm ts).mem_iff.mp hu)) (ih hts)

/-- The OAM entries in OAM order. -/
theorem oamEntries_pairwise (oam : Memory) : (oamIndices.map (oamEntry oam)).Pairwise (·.idx < ·.idx) :=
  List.pairwise_map.mpr List.pairwise_lt_range

/-- Settles O49: the sort permutes the first ten hits, which stand in OAM order. -/
theorem oamScanSelectsTen : Obligations.OamScanSelectsTen := by
  intro oam ly h hit first
  have hhit : (fun t : Sprite => t.onLine ly h) = hit := funext fun t => Bool.decide_and ..
  have hscan : oamScan oam ly h = sortSprites first := by rw [oamScan, hhit]; rfl
  refine ⟨oamScan_length_le oam ly h, ?_, ?_⟩
  · rw [hscan]; exact sortSprites_perm first
  · rw [hscan]
    exact sortSprites_pairwise (((oamEntries_pairwise oam).filter _).take)

/-! ### One dot with the LCD on -/

/-- The PPU after the pixel of a dot, before the dot is counted (R520). -/
def State.afterPixel (s : State) : Ppu := if s.ppu.mode = .transfer then pixelStep s else s.ppu

theorem ppuTick_of_on {s : State} (h : s.ppu.lcdOn = true) : ppuTick s = s.afterPixel.advance s := by
  rw [ppuTick, if_pos h]; rfl

/-- The pixel of a dot moves the framebuffer, the window flag and the counters of mode 3 only. -/
theorem pixelStep_frame (s : State) :
    pixelStep s =
      { s.ppu with
        fb := (pixelStep s).fb, winDrawn := (pixelStep s).winDrawn, px := (pixelStep s).px,
        m3Skip := (pixelStep s).m3Skip, m3Done := (pixelStep s).m3Done } := by
  unfold pixelStep Ppu.outPixel
  dsimp only
  split
  · rfl
  · split <;> split <;> rfl

/-- What the position in the frame is read off. -/
structure SamePosition (p q : Ppu) : Prop where
  lcdc : q.lcdc = p.lcdc
  ly : q.ly = p.ly
  lx : q.lx = p.lx
  frameDone : q.frameDone = p.frameDone

theorem afterPixel_samePosition (s : State) : SamePosition s.ppu s.afterPixel := by
  unfold State.afterPixel
  split
  · rw [pixelStep_frame]; exact ⟨rfl, rfl, rfl, rfl⟩
  · exact ⟨rfl, rfl, rfl, rfl⟩

theorem afterPixel_scx (s : State) : s.afterPixel.scx = s.ppu.scx := by
  unfold State.afterPixel
  split
  · rw [pixelStep_frame]
  · rfl

/-! ### The position in the frame -/

/-- The entry into a scanline: its position is set before, and VBlank is requested on scanline 144 only (R523). -/
theorem lineEntry_samePosition (oam : Memory) (p : Ppu) :
    SamePosition p (p.lineEntry oam).ppu ∧ (p.lineEntry oam).vblank = decide (p.ly = visibleLines) := by
  unfold Ppu.lineEntry
  split
  · rename_i h
    exact ⟨⟨rfl, rfl, rfl, rfl⟩, (decide_eq_false h.ne).symm⟩
  · split
    · rename_i h
      exact ⟨⟨rfl, rfl, rfl, rfl⟩, (decide_eq_true h).symm⟩
    · rename_i h
      exact ⟨⟨rfl, rfl, rfl, rfl⟩, (decide_eq_false h).symm⟩

section
variable (s : State) {p : Ppu}

theorem advance_of_lineEnd (h : p.lx + 1 = lineT) :
    p.advance s = Ppu.lineEntry s.oam (Ppu.nextLine { p with lx := p.lx + 1 }) := if_pos h

/-- Within a scanline a dot moves `lx` only. -/
theorem advance_within (h : p.lx + 1 ≠ lineT) :
    SamePosition { p with lx := p.lx + 1 } (p.advance s).ppu ∧ (p.advance s).vblank = false := by
  unfold Ppu.advance
  dsimp only
  rw [if_neg h]
  split
  · exact ⟨⟨rfl, rfl, rfl, rfl⟩, rfl⟩
  · split <;> exact ⟨⟨rfl, rfl, rfl, rfl⟩, rfl⟩

/-- The position in the frame, in dots (R511). -/
def Ppu.position (p : Ppu) : Nat := p.ly * 456 + p.lx

/-- The scanline after the last dot of a line, and the wrap of the frame (R520, R524). -/
theorem nextLine_position (hly : p.ly < lines) (hlx : p.lx = lineT) :
    p.nextLine.lcdc = p.lcdc ∧ p.nextLine.position = p.position % 70224 ∧
    p.nextLine.lx = 0 ∧ p.nextLine.frameDone = (p.frameDone || decide (p.nextLine.position = 0)) := by
  unfold lineT at hlx
  unfold lines at hly
  unfold Ppu.nextLine lines Ppu.position
  split
  · rename_i hlast
    have hframe : p.ly * 456 + p.lx = 70224 := by omega
    exact ⟨rfl, by simp [hframe], rfl, by simp⟩
  · rename_i hnext
    refine ⟨rfl, by dsimp only; omega, rfl, ?_⟩
    have hpos : (p.ly + 1) * 456 + 0 ≠ 0 := by omega
    rw [decide_eq_false hpos, Bool.or_false]

theorem position_succ (p : Ppu) : Ppu.position { p with lx := p.lx + 1 } = p.position + 1 := (Nat.add_assoc ..).symm

/-- One dot moves the position by one, requests VBlank at the start of scanline 144 and finishes the frame at its end (R520,
R523, R524). -/
theorem advance_position (hly : p.ly < lines) (hlx : p.lx < lineT) :
    (p.advance s).ppu.lcdc = p.lcdc ∧ (p.advance s).ppu.position = (p.position + 1) % 70224 ∧
    (p.advance s).vblank = decide ((p.advance s).ppu.position = 144 * 456) ∧
    (p.advance s).ppu.frameDone = (p.frameDone || decide ((p.advance s).ppu.position = 0)) := by
  by_cases hend : p.lx + 1 = lineT
  · obtain ⟨hlcdc, hpos, hlx0, hframe⟩ := nextLine_position (p := { p with lx := p.lx + 1 }) hly hend
    obtain ⟨hsame, hvblank⟩ := lineEntry_samePosition s.oam (Ppu.nextLine { p with lx := p.lx + 1 })
    have hposition : (p.advance s).ppu.position = (Ppu.nextLine { p with lx := p.lx + 1 }).position := by
      simp only [advance_of_lineEnd s hend, Ppu.position, hsame.ly, hsame.lx]
    rw [position_succ] at hpos
    rw [hposition, advance_of_lineEnd s hend, hvblank, hsame.lcdc, hsame.frameDone]
    refine ⟨hlcdc, hpos, ?_, hframe⟩
    rw [decide_eq_decide, Ppu.position, hlx0]
    unfold visibleLines
    omega
  · obtain ⟨hsame, hvblank⟩ := advance_within s hend
    have hposition : (p.advance s).ppu.position = p.position + 1 := by
      simp only [Ppu.position, hsame.ly, hsame.lx, Nat.add_assoc]
    have hrange : p.position + 1 < 70224 ∧ (p.position + 1) % 456 ≠ 0 := by
      unfold lines at hly
      unfold lineT at hlx hend
      unfold Ppu.position
      omega
    have hnone : ∀ m, decide (p.position + 1 = m * 456) = false := fun m => decide_eq_false (by omega)
    rw [hvblank, hsame.lcdc, hsame.frameDone, hposition, hnone, hnone 0, Nat.mod_eq_of_lt hrange.1, Bool.or_false]
    exact ⟨rfl, rfl, rfl, rfl⟩

end

/-- Settles O47: the pixel of a dot does not move the position, and the rest of the dot moves it by one. -/
theorem framePosition : Obligations.FramePosition := by
  intro s hok hon pos t
  have hpixel := afterPixel_samePosition s
  obtain ⟨hlcdc, hpos, hvblank, hframe⟩ := advance_position s (p := s.afterPixel)
    (by rw [hpixel.ly]; exact hok.ly) (by rw [hpixel.lx]; exact hok.lx)
  have htick : t.ppu = (s.afterPixel.advance s).ppu := congrArg PpuOut.ppu (ppuTick_of_on hon)
  have hstart : s.afterPixel.position = pos s.ppu := by rw [Ppu.position, hpixel.ly, hpixel.lx]
  rw [hstart] at hpos
  refine ⟨?_, ?_, ?_, ?_⟩
  · rw [htick, Ppu.lcdOn, hlcdc, hpixel.lcdc]; exact hon
  · rw [htick]; exact hpos
  · rw [getLsbD_tickSlow_pend s (by decide), ppuTick_of_on hon, hvblank, htick]
    simp only [decide_true, Bool.and_true, Nat.reduceEqDiff, decide_false, Bool.and_false, Bool.or_false]
    rfl
  · rw [htick, hframe, hpixel.frameDone]; rfl

/-! ### Mode 3 -/

/-- The PPU in mode 3 of a visible scanline, with `skip` dots to skip and `drawn` pixels drawn (R540). -/
structure Ppu.Mode3 (p : Ppu) (ly lx skip drawn : Nat) : Prop where
  lcdOn : p.lcdOn = true
  mode : p.mode = .transfer
  ly : p.ly = ly
  lx : p.lx = lx
  m3Skip : p.m3Skip = skip
  px : p.px = drawn
  m3Done : p.m3Done = false

/-- The dot before dot 80 of a visible scanline starts mode 3 (R522). -/
theorem advance_of_scanEnd (s : State) {p : Ppu} (hly : p.ly < visibleLines) (hlx : p.lx + 1 = mode2T) :
    p.advance s =
      ⟨Ppu.startLine s.params.mode3Lead s.mode3Extra { p with lx := p.lx + 1 }, false, false, true⟩ := by
  unfold Ppu.advance
  dsimp only
  rw [if_neg (by rw [hlx]; decide), if_pos ⟨hlx, hly⟩]

/-- After the scan mode 3 lasts until its last pixel is drawn (R520, R526). -/
theorem advance_of_transfer (s : State) {p : Ppu} (hmode : p.mode = .transfer) (hscan : mode2T ≤ p.lx)
    (hend : p.lx + 1 < lineT) :
    (p.advance s).ppu =
      if p.m3Done = true then Ppu.hblankEntry { p with lx := p.lx + 1 } else { p with lx := p.lx + 1 } := by
  unfold Ppu.advance
  dsimp only
  rw [if_neg hend.ne, if_neg fun e => (Nat.lt_succ_of_le hscan).ne' e.1, hmode]
  simp only [true_and]
  split <;> rfl

section
variable {s : State} {ly lx skip drawn : Nat} (h : s.ppu.Mode3 ly lx skip drawn)
include h

/-- One dot of mode 3 skips a dot, or draws a pixel; the last pixel ends mode 3 (R540). -/
theorem pixelStep_mode3 (hpx : drawn < 160) :
    (pixelStep s).m3Skip = skip - 1 ∧ (pixelStep s).px = (if skip = 0 then drawn + 1 else drawn) ∧
    ((pixelStep s).m3Done = true ↔ skip = 0 ∧ drawn = 159) := by
  obtain ⟨-, -, -, -, rfl, rfl, hdone⟩ := h
  unfold pixelStep
  split
  · rename_i hskip
    refine ⟨rfl, (if_neg hskip.ne').symm, ?_⟩
    dsimp only
    rw [hdone]
    simp [hskip.ne']
  · rename_i hskip
    have hzero : s.ppu.m3Skip = 0 := Nat.eq_zero_of_not_pos hskip
    unfold Ppu.outPixel linePixels
    dsimp only
    rw [if_pos hpx, hzero]
    dsimp only
    split
    · rename_i hlast
      exact ⟨rfl, rfl, by simp; omega⟩
    · rename_i hmore
      refine ⟨rfl, rfl, ?_⟩
      rw [hdone]
      simp
      omega

theorem tickSlow_mode3 (hscan : mode2T ≤ lx) (hend : lx + 1 < lineT) :
    (tickSlow s).ppu =
      if (pixelStep s).m3Done = true then Ppu.hblankEntry { pixelStep s with lx := lx + 1 }
      else { pixelStep s with lx := lx + 1 } := by
  have hmode : (pixelStep s).mode = .transfer := by rw [pixelStep_frame]; exact h.mode
  have hlx : (pixelStep s).lx = lx := by rw [pixelStep_frame]; exact h.lx
  have hpixel : s.afterPixel = pixelStep s := if_pos h.mode
  have htick : (tickSlow s).ppu = (s.afterPixel.advance s).ppu := congrArg PpuOut.ppu (ppuTick_of_on h.lcdOn)
  rw [htick, hpixel, advance_of_transfer s hmode (by rw [hlx]; exact hscan) (by rw [hlx]; exact hend), hlx]

/-- A dot before the last one of mode 3. -/
theorem Ppu.Mode3.next (hpx : drawn < 160) (hscan : mode2T ≤ lx) (hend : lx + 1 < lineT)
    (hmore : ¬ (skip = 0 ∧ drawn = 159)) :
    (tickSlow s).ppu.Mode3 ly (lx + 1) (skip - 1) (if skip = 0 then drawn + 1 else drawn) := by
  obtain ⟨hskip, hdrawn, hdone⟩ := pixelStep_mode3 h hpx
  have hnot := mt hdone.mp hmore
  have hframe := pixelStep_frame s
  rw [tickSlow_mode3 h hscan hend, if_neg hnot]
  refine ⟨?_, ?_, ?_, rfl, hskip, hdrawn, Bool.eq_false_iff.mpr hnot⟩
  · show (pixelStep s).lcdOn = true
    rw [Ppu.lcdOn, pixelStep_lcdc]; exact h.lcdOn
  · show (pixelStep s).mode = _
    rw [hframe]; exact h.mode
  · show (pixelStep s).ly = _
    rw [hframe]; exact h.ly

/-- The dot of the last pixel enters mode 0 (R526). -/
theorem Ppu.Mode3.last (hscan : mode2T ≤ lx) (hend : lx + 1 < lineT) (hskip : skip = 0) (hdrawn : drawn = 159) :
    (tickSlow s).ppu.mode = .hblank ∧ (tickSlow s).ppu.px = 160 := by
  obtain ⟨-, hpx, hdone⟩ := pixelStep_mode3 h (by omega)
  rw [tickSlow_mode3 h hscan hend, if_pos (hdone.mpr ⟨hskip, hdrawn⟩)]
  refine ⟨rfl, hpx.trans ?_⟩
  rw [if_pos hskip, hdrawn]

end

/-- `n` dots into mode 3 (R525): first the dots to skip, then the pixels. -/
theorem mode3_iterate {s : State} {ly lx k : Nat} (h : s.ppu.Mode3 ly lx k 0) (hscan : mode2T ≤ lx)
    (hfit : lx + k + 160 < lineT) {n : Nat} (hn : n < k + 160) :
    (tickSlow^[n] s).ppu.Mode3 ly (lx + n) (k - n) (n - k) := by
  induction n with
  | zero => rw [Nat.zero_sub]; exact h
  | succ n ih =>
    have hnext := (ih (by omega)).next (by omega) (by omega) (by omega) (by omega)
    have hskip : k - n - 1 = k - (n + 1) := Nat.sub_sub ..
    have hdrawn : (if k - n = 0 then n - k + 1 else n - k) = n + 1 - k := by split <;> omega
    rw [hskip, hdrawn] at hnext
    rw [Function.iterate_succ_apply']
    exact hnext

/-- Settles O48 (log entry 3): the start of mode 3, then its dots one by one. -/
theorem modeThreeLength : Obligations.ModeThreeLength := by
  refine ⟨fun s hon hly hlx => ?start, fun s n hon hmode hly hpx hdone hscan hfit => ?length⟩
  case start =>
    obtain ⟨-, hly', hlx', -⟩ := afterPixel_samePosition s
    have htick := (ppuTick_of_on hon).trans
      (advance_of_scanEnd s (p := s.afterPixel) (by rw [hly']; exact hly) (by rw [hlx', hlx]; rfl))
    unfold tickSlow
    rw [htick]
    refine ⟨rfl, ?_, hly', rfl, rfl, ?_, rfl⟩
    · show s.afterPixel.lx + 1 = 80
      rw [hlx', hlx]
    · show s.params.mode3Lead + s.afterPixel.scx.toNat % 8 + s.mode3Extra = _
      rw [afterPixel_scx]
      rfl
  case length =>
    have hstart : s.ppu.Mode3 s.ppu.ly s.ppu.lx s.ppu.m3Skip 0 := ⟨hon, hmode, rfl, rfl, rfl, hpx, hdone⟩
    refine ⟨fun hn => (mode3_iterate hstart hscan hfit hn).mode, fun hn => ?_⟩
    subst hn
    have hlast := mode3_iterate hstart hscan hfit (n := s.ppu.m3Skip + 159) (by omega)
    rw [← Nat.add_assoc (m := 159) (k := 1), Function.iterate_succ_apply']
    have hend : s.ppu.lx + (s.ppu.m3Skip + 159) + 1 < 456 := by omega
    exact hlast.last (Nat.le_trans hscan (Nat.le_add_right ..)) hend (by omega) (by omega)

end Sys2Proof.Machine
end

section
/-! SUPPORT. The APU: the triggers (64_apu.md R594, R595, R597, R603, R614), the switch of NR52 (R582, R583, R630) and the
range of the outputs and the mix (R593, R602, R613, R620). Settles `Obligations.TriggerNeedsConverter`,
`Obligations.ApuSwitchedOff` and `Obligations.MixStaysInRange`. -/
namespace Sys2Proof.Machine

/-! ### The fields of a register as numbers -/

theorem slice_high_nibble (v : Byte) : slice v 4 4 = v.toNat / 16 := by
  rw [slice, Nat.shiftRight_eq_div_pow]
  exact Nat.mod_eq_of_lt (by have := v.isLt; omega)

theorem slice_four_three (v : Byte) : slice v 4 3 = v.toNat / 16 % 8 := by
  rw [slice, Nat.shiftRight_eq_div_pow]; rfl

/-- The three high bits of the wavelength are kept by the mask of NRx4 (R598). -/
theorem wavelength_masked (r3 v : Byte) : wavelength r3 (v &&& 0x47#8) = v.toNat % 8 * 256 + r3.toNat := by
  have hlow : (v.toNat &&& 0x47) % 2 ^ 3 = v.toNat % 2 ^ 3 := by
    simp only [← Nat.and_two_pow_sub_one_eq_mod, Nat.and_assoc]
    rfl
  exact congrArg (· * 256 + r3.toNat) hlow

theorem noisePeriod_eq (r3 : Byte) : noisePeriod r3 = noiseDiv (r3.toNat % 8) * 2 ^ (r3.toNat / 16) := by
  rw [noisePeriod, slice_high_nibble, Nat.shiftLeft_eq]; rfl

/-! ### The triggers -/

section
variable {v : Byte} (hv : v.getLsbD 7 = true)
include hv

theorem SquareCh.writeR4_off {c : SquareCh} (h : c.r2 = 0#8) : c.writeR4 v = { c with r4 := v &&& 0x47#8 } :=
  (if_pos hv).trans (if_pos h)

theorem SquareCh.writeR4_on {c : SquareCh} (h : c.r2 ≠ 0#8) :
    c.writeR4 v =
      { c with
        r4 := v &&& 0x47#8, en := true, pcnt := 2048 - (v.toNat % 8 * 256 + c.r3.toNat), dutyPos := 0,
        vol := c.r2.toNat / 16, envCnt := c.r2.toNat % 8, len := 64 - c.r1.toNat % 64 } := by
  rw [← wavelength_masked, ← slice_high_nibble]
  exact (if_pos hv).trans (if_neg h)

theorem WaveCh.writeR4_off {c : WaveCh} (h : bit c.r0 7 = false) : c.writeR4 v = { c with r4 := v &&& 0x47#8 } :=
  (if_pos hv).trans (if_neg (Bool.eq_false_iff.mp h))

theorem WaveCh.writeR4_on {c : WaveCh} (h : bit c.r0 7 = true) :
    c.writeR4 v =
      { c with
        r4 := v &&& 0x47#8, en := true, pcnt := 2048 - (v.toNat % 8 * 256 + c.r3.toNat), pos := 0,
        len := 256 - c.r1.toNat } := by
  rw [← wavelength_masked]
  exact (if_pos hv).trans (if_pos h)

theorem NoiseCh.writeR4_off {c : NoiseCh} (h : c.r2 = 0#8) : c.writeR4 v = { c with r4 := v &&& 0x40#8 } :=
  (if_pos hv).trans (if_pos h)

theorem NoiseCh.writeR4_on {c : NoiseCh} (h : c.r2 ≠ 0#8) :
    c.writeR4 v =
      { c with
        r4 := v &&& 0x40#8, en := true, pcnt := noiseDiv (c.r3.toNat % 8) * 2 ^ (c.r3.toNat / 16), lfsr := 0x7FFF#15,
        vol := c.r2.toNat / 16, envCnt := c.r2.toNat % 8, len := 64 - c.r1.toNat % 64 } := by
  rw [← noisePeriod_eq, ← slice_high_nibble]
  exact (if_pos hv).trans (if_neg h)

/-- The trigger of channel 1 reloads the sweep counter (R594). -/
theorem storeReg_nr14_sweepCnt {a : Apu} (h : a.ch1.r2 ≠ 0#8) :
    (a.storeReg .nr14 v).sweepCnt = a.nr10.toNat / 16 % 8 := by
  rw [← slice_four_three]
  exact if_pos (Bool.and_eq_true_iff.mpr ⟨hv, bne_iff_ne.mpr h⟩)

end

/-- A CPU write of NR10 to NR51 while the APU is on (R582). -/
theorem RegAt.busWrite_apu {a : Word} {r : ApuReg} (h : RegAt a (.apu r)) {s : State} (hon : s.apu.on = true) (v : Byte) :
    (Machine.busWrite s a v).apu = s.apu.storeReg r v := by
  rw [h.busWrite]
  exact if_pos hon

theorem regAt_nr14 : RegAt 0xFF14#16 (.apu .nr14) := ⟨0x14, by decide⟩
theorem regAt_nr24 : RegAt 0xFF19#16 (.apu .nr24) := ⟨0x19, by decide⟩
theorem regAt_nr34 : RegAt 0xFF1E#16 (.apu .nr34) := ⟨0x1E, by decide⟩
theorem regAt_nr44 : RegAt 0xFF23#16 (.apu .nr44) := ⟨0x23, by decide⟩
theorem regAt_nr52 : RegAt 0xFF26#16 .nr52 := ⟨0x26, by decide⟩

/-- Settles O51: a channel after its trigger is given in one equation, and the claims are its fields. -/
theorem triggerNeedsConverter : Obligations.TriggerNeedsConverter := by
  intro s v hon hv
  rw [regAt_nr14.busWrite_apu hon, regAt_nr24.busWrite_apu hon, regAt_nr34.busWrite_apu hon, regAt_nr44.busWrite_apu hon]
  intro wl c1 c2 c3 c4
  refine ⟨fun h => ?sq1, fun h => ?off1, fun h => ?sq2, fun h => ?off2, fun h => ?wave, fun h => ?off3, fun h => ?noise,
    fun h => ?off4⟩
  case sq1 =>
    have hc : c1 = _ := SquareCh.writeR4_on hv h
    rw [hc]
    exact ⟨rfl, rfl, rfl, rfl, rfl, rfl, storeReg_nr14_sweepCnt hv h⟩
  case sq2 =>
    have hc : c2 = _ := SquareCh.writeR4_on hv h
    rw [hc]
    exact ⟨rfl, rfl, rfl, rfl, rfl, rfl⟩
  case wave =>
    have hc : c3 = _ := WaveCh.writeR4_on hv h
    rw [hc]
    exact ⟨rfl, rfl, rfl, rfl⟩
  case noise =>
    have hc : c4 = _ := NoiseCh.writeR4_on hv h
    rw [hc]
    exact ⟨rfl, rfl, rfl, rfl, rfl, rfl⟩
  case off1 => exact SquareCh.writeR4_off hv h
  case off2 => exact SquareCh.writeR4_off hv h
  case off3 => exact WaveCh.writeR4_off hv h
  case off4 => exact NoiseCh.writeR4_off hv h

/-! ### The outputs and the mix -/

theorem SquareCh.out_disabled {c : SquareCh} (h : c.en = false) : c.out = 0 := if_neg (Bool.eq_false_iff.mp h)
theorem WaveCh.out_disabled (wave : Memory) {c : WaveCh} (h : c.en = false) : c.out wave = 0 :=
  if_neg (Bool.eq_false_iff.mp h)
theorem NoiseCh.out_disabled {c : NoiseCh} (h : c.en = false) : c.out = 0 := if_neg (Bool.eq_false_iff.mp h)

/-- A step of a duty pattern is 0 or 1 (R592). -/
theorem dutyPattern_getD_le (duty i : Nat) : (dutyPattern duty).getD i 0 ≤ 1 := by
  have hmem : ∀ x ∈ dutyPattern duty, x ≤ 1 := by unfold dutyPattern; split <;> decide
  by_cases hi : i < (dutyPattern duty).length
  · rw [List.getD_eq_getElem _ _ hi]
    exact hmem _ (List.getElem_mem hi)
  · rw [List.getD_eq_default _ _ (Nat.le_of_not_lt hi)]
    exact Nat.zero_le 1

theorem SquareCh.out_le {c : SquareCh} (h : c.vol ≤ 15) : c.out ≤ 15 := by
  unfold SquareCh.out
  split
  · exact Nat.mul_le_mul (dutyPattern_getD_le ..) h
  · exact Nat.zero_le 15

theorem waveSample_le (wave : Memory) (k : Nat) : waveSample wave k ≤ 15 := by
  unfold waveSample
  dsimp only
  split <;> exact slice_four_le _ _

theorem WaveCh.out_le (wave : Memory) (c : WaveCh) : c.out wave ≤ 15 := by
  unfold WaveCh.out
  split
  · exact (Nat.shiftRight_le ..).trans (waveSample_le ..)
  · exact Nat.zero_le 15

theorem NoiseCh.out_le {c : NoiseCh} (h : c.vol ≤ 15) : c.out ≤ 15 := by
  unfold NoiseCh.out
  split
  · exact Nat.mul_le_mul (Nat.sub_le 1 _) h
  · exact Nat.zero_le 15

section
variable {a : Apu} (wave : Memory)

/-- A side of the mix is the sum of at most four outputs (R620). -/
theorem sideSum_le (pan : Nat) : sideSum wave a pan ≤ a.ch1.out + a.ch2.out + a.ch3.out wave + a.ch4.out := by
  have hite : ∀ (b : Bool) (n : Nat), (if b then n else 0) ≤ n := fun b n => by cases b <;> simp
  exact Nat.add_le_add (Nat.add_le_add (Nat.add_le_add (hite ..) (hite ..)) (hite ..)) (hite ..)

theorem mix_le {n : Nat} (h : a.ch1.out + a.ch2.out + a.ch3.out wave + a.ch4.out ≤ n) :
    (a.mix wave).1 ≤ n * 8 ∧ (a.mix wave).2 ≤ n * 8 :=
  ⟨Nat.mul_le_mul ((sideSum_le wave _).trans h) (Nat.succ_le_succ (slice_three_le ..)),
   Nat.mul_le_mul ((sideSum_le wave _).trans h) (Nat.succ_le_succ (slice_three_le ..))⟩

theorem mix_silent (h1 : a.ch1.en = false) (h2 : a.ch2.en = false) (h3 : a.ch3.en = false) (h4 : a.ch4.en = false) :
    a.mix wave = (0, 0) := by
  have hsum : a.ch1.out + a.ch2.out + a.ch3.out wave + a.ch4.out ≤ 0 := by
    rw [SquareCh.out_disabled h1, SquareCh.out_disabled h2, WaveCh.out_disabled wave h3, NoiseCh.out_disabled h4]
  obtain ⟨hl, hr⟩ := mix_le wave hsum
  exact Prod.ext (Nat.eq_zero_of_le_zero hl) (Nat.eq_zero_of_le_zero hr)

end

/-- Settles O53: four outputs of at most 15 each, times at most 8. -/
theorem mixStaysInRange : Obligations.MixStaysInRange := by
  intro a wave h1 h2 h4
  have out1 := SquareCh.out_le h1
  have out2 := SquareCh.out_le h2
  have out3 := WaveCh.out_le wave a.ch3
  have out4 := NoiseCh.out_le h4
  obtain ⟨hleft, hright⟩ := mix_le wave (a := a) (n := 60) (by omega)
  exact ⟨out1, out2, out3, out4, SquareCh.out_disabled, SquareCh.out_disabled, WaveCh.out_disabled wave,
    NoiseCh.out_disabled, hleft, hright, mix_silent wave⟩

/-! ### The APU switched off -/

/-- The registers NR10 to NR51 at their addresses (10_state.md R29). -/
def nrTable : List (Word × ApuReg) :=
  [(0xFF10#16, .nr10), (0xFF11#16, .nr11), (0xFF12#16, .nr12), (0xFF13#16, .nr13), (0xFF14#16, .nr14),
   (0xFF16#16, .nr21), (0xFF17#16, .nr22), (0xFF18#16, .nr23), (0xFF19#16, .nr24), (0xFF1A#16, .nr30),
   (0xFF1B#16, .nr31), (0xFF1C#16, .nr32), (0xFF1D#16, .nr33), (0xFF1E#16, .nr34), (0xFF20#16, .nr41),
   (0xFF21#16, .nr42), (0xFF22#16, .nr43), (0xFF23#16, .nr44), (0xFF24#16, .nr50), (0xFF25#16, .nr51)]

theorem regionOf_io {a : Word} (hlo : 0xFF00 ≤ a.toNat) (hhi : a.toNat < 0xFF80) :
    regionOf a = .io (a.toNat - 0xFF00) := by
  simp (disch := omega) only [regionOf, unEcho, regionOfPlain, if_pos, if_neg]

theorem nrTable_regAt : ∀ x ∈ nrTable, RegAt x.1 (.apu x.2) := by
  intro x hx
  have hpage : ∀ x ∈ nrTable, 0xFF00 ≤ x.1.toNat ∧ x.1.toNat - 0xFF00 < 0x80 := by decide
  have hreg : ∀ x ∈ nrTable, ∀ cgb, ioRegAt cgb (x.1.toNat - 0xFF00) = some (.apu x.2) := by decide
  obtain ⟨hlo, hhi⟩ := hpage x hx
  exact ⟨x.1.toNat - 0xFF00, hhi, regionOf_io hlo (by omega), hreg x hx⟩

/-- The I/O addresses 0xFF10 to 0xFF25 hold an NR register or none (R29). -/
theorem ioRegAt_nr : ∀ cgb, ∀ lo < 0x26, 0x10 ≤ lo → ∀ r ∈ ioRegAt cgb lo, ∃ x ∈ nrTable, r = .apu x.2 := by decide

/-- While the APU is off, a write to an NR register does nothing (R582). -/
theorem busWrite_nr_off {s : State} (hoff : s.apu.on = false) {a : Word} (hlo : 0xFF10 ≤ a.toNat)
    (hhi : a.toNat ≤ 0xFF25) (w : Byte) : busWrite s a w = s := by
  rw [busWrite_of_region (regionOf_io (by omega) (by omega)), busWriteRegion, ioWrite]
  split
  · rename_i r hr
    obtain ⟨x, -, rfl⟩ := ioRegAt_nr s.cgb (a.toNat - 0xFF00) (by omega) (by omega) r hr
    have hkept : s.apu.writeReg x.2 w = s.apu := if_neg (Bool.eq_false_iff.mp hoff)
    rw [ioWriteReg, hkept]
  · rfl

theorem busWrite_nr52_off {s : State} (hon : s.apu.on = true) {v : Byte} (hv : v.getLsbD 7 = false) :
    busWrite s 0xFF26#16 v = { s with apu := s.apu.powerOff } := by
  have hoff : s.apu.writeNr52 v = s.apu.powerOff := (if_neg (Bool.eq_false_iff.mp hv)).trans (if_pos hon)
  rw [regAt_nr52.busWrite, ioWriteReg, hoff]

theorem readNr52_powerOff (a : Apu) : a.powerOff.readNr52 = 0x70#8 := by
  simp only [Apu.readNr52, Apu.powerOff]
  decide

/-- The cleared registers as they read (R29, R630). -/
theorem readReg_powerOff (a : Apu) :
    nrTable.map (fun x => a.powerOff.readReg x.2) =
      [0x80#8, 0x3F#8, 0x00#8, 0xFF#8, 0xBF#8, 0x3F#8, 0x00#8, 0xFF#8, 0xBF#8, 0x7F#8, 0xFF#8, 0x9F#8, 0xFF#8, 0xBF#8,
       0xFF#8, 0x00#8, 0x00#8, 0xBF#8, 0x00#8, 0x00#8] := by
  simp only [nrTable, List.map_cons, List.map_nil, Apu.readReg, Apu.powerOff]
  decide

/-- Settles O52: the APU is `Apu.powerOff`, and the reads go through the table of the registers. -/
theorem apuSwitchedOff : Obligations.ApuSwitchedOff := by
  intro s v hon hv
  rw [busWrite_nr52_off hon hv]
  intro t
  refine ⟨rfl, rfl, mix_silent t.wave rfl rfl rfl rfl, (regAt_nr52.busRead t).trans (readNr52_powerOff s.apu),
    fun a w hlo hhi => busWrite_nr_off rfl hlo hhi w, ?_⟩
  have hread : ∀ x ∈ nrTable, (busRead t ∘ Prod.fst) x = t.apu.readReg x.2 := fun x hx => (nrTable_regAt x hx).busRead t
  calc _ = (nrTable.map Prod.fst).map (busRead t) := rfl
    _ = nrTable.map (fun x => t.apu.readReg x.2) := by rw [List.map_map, List.map_congr_left hread]
    _ = _ := readReg_powerOff s.apu

end Sys2Proof.Machine
end

section
/-! SUPPORT. The clock of mapper type 3 as one number of seconds (65_cartridge.md R670, R673, R674). Settles
`Obligations.ClockAddsElapsedSeconds`. -/
namespace Sys2Proof.Machine

/-- One digit of a number in mixed radix, with the carry into the digits above it. -/
theorem add_mul_mod_mul (x y b : Nat) {a : Nat} (ha : 0 < a) :
    (x + a * y) % (a * b) = x % a + a * ((x / a + y) % b) := by
  rw [Nat.mod_mul, Nat.add_mul_mod_self_left, Nat.add_mul_div_left _ _ ha]

/-- The live registers in seconds, digit by digit (R670). -/
def RtcRegs.seconds (r : RtcRegs) : Nat := r.sec.toNat + 60 * (r.min.toNat + 60 * (r.hour.toNat + 24 * r.day))

theorem RtcRegs.seconds_eq (r : RtcRegs) :
    r.seconds = r.sec.toNat + 60 * r.min.toNat + 3600 * r.hour.toNat + 86400 * r.day := by
  unfold RtcRegs.seconds
  omega

section
variable (r : RtcRegs) (delta : Nat)

/-- The minutes, hours and days of R674 before they are reduced. -/
def RtcRegs.minutesAfter : Nat := r.min.toNat + (r.sec.toNat + delta) / 60
def RtcRegs.hoursAfter : Nat := r.hour.toNat + r.minutesAfter delta / 60
def RtcRegs.daysAfter : Nat := r.day + r.hoursAfter delta / 24

theorem addSeconds_sec : (r.addSeconds delta).sec.toNat = (r.sec.toNat + delta) % 60 :=
  Nat.mod_eq_of_lt ((Nat.mod_lt _ (by decide)).trans (by decide))

theorem addSeconds_min : (r.addSeconds delta).min.toNat = r.minutesAfter delta % 60 :=
  Nat.mod_eq_of_lt ((Nat.mod_lt _ (by decide)).trans (by decide))

theorem addSeconds_hour : (r.addSeconds delta).hour.toNat = r.hoursAfter delta % 24 :=
  Nat.mod_eq_of_lt ((Nat.mod_lt _ (by decide)).trans (by decide))

theorem addSeconds_day : (r.addSeconds delta).day = r.daysAfter delta % 512 := by
  show b2n (decide (r.daysAfter delta % 512 ≥ 256)) * 256 + r.daysAfter delta % 256 % 256 = _
  unfold b2n
  simp only [decide_eq_true_eq]
  split <;> omega

/-- The total advances modulo 512 days (R674). -/
theorem addSeconds_seconds : (r.addSeconds delta).seconds = (r.seconds + delta) % (60 * (60 * (24 * 512))) := by
  have hstart : r.seconds + delta =
      r.sec.toNat + delta + 60 * (r.min.toNat + 60 * (r.hour.toNat + 24 * r.day)) := Nat.add_right_comm ..
  rw [hstart, add_mul_mod_mul _ _ _ (by decide), ← Nat.add_assoc, Nat.add_comm (_ / 60) r.min.toNat,
    add_mul_mod_mul _ _ _ (by decide), ← Nat.add_assoc, Nat.add_comm (_ / 60) r.hour.toNat,
    add_mul_mod_mul _ _ _ (by decide), Nat.add_comm (_ / 24) r.day,
    RtcRegs.seconds, addSeconds_sec, addSeconds_min, addSeconds_hour, addSeconds_day]
  rfl

/-- The carry is sticky, and set by an overflow of the day counter (R674). -/
theorem addSeconds_carry :
    (r.addSeconds delta).carry = true ↔ r.carry = true ∨ 512 * 86400 ≤ r.seconds + delta := by
  have hday : 511 < r.daysAfter delta ↔ 512 * 86400 ≤ r.seconds + delta := by
    unfold RtcRegs.daysAfter RtcRegs.hoursAfter RtcRegs.minutesAfter RtcRegs.seconds
    omega
  rw [← hday, ← decide_eq_true_iff (p := 511 < _), ← Bool.or_eq_true]
  rfl

end

/-- Settles O55: the registers after an update are the digits of the advanced number of seconds. -/
theorem clockAddsElapsedSeconds : Obligations.ClockAddsElapsedSeconds := by
  intro t now _ total u after
  have htotal : ∀ r, total r = r.seconds := fun r => r.seconds_eq.symm
  refine ⟨rfl, rfl, fun hhalt => if_pos hhalt, fun hrun => ?_⟩
  have hlive : u.live = t.live.addSeconds (now - t.anchor).toNat := if_neg (Bool.eq_false_iff.mp hrun)
  have hafter : after = t.live.seconds + (now - t.anchor).toNat := congrArg (· + _) (htotal _)
  rw [htotal, hafter, hlive, addSeconds_sec, addSeconds_min, addSeconds_hour]
  exact ⟨hrun, Nat.mod_lt _ (by decide), Nat.mod_lt _ (by decide), Nat.mod_lt _ (by decide), addSeconds_seconds ..,
    addSeconds_carry ..⟩

end Sys2Proof.Machine
end

section
/-! SUPPORT. The windows of the cartridge for every mapper kind (65_cartridge.md R655 to R681): the ROM windows, the RAM-enable
latch and the RAM window. Settles `Obligations.CartridgeWindows`. -/
namespace Sys2Proof.Machine

/-! ### The bus at the cartridge -/

/-- A state with what an access of the cartridge port gives. -/
def State.withCart (s : State) (r : Cart × Inputs) : State := { s with cart := r.1, inputs := r.2 }

section
variable (s : State) {a : Word}

theorem regionOf_rom (h : a.toNat < 0x8000) : regionOf a = .rom a.toNat := by
  simp (disch := omega) only [regionOf, unEcho, regionOfPlain, if_pos, if_neg]

theorem busWrite_rom (h : a.toNat < 0x8000) (v : Byte) :
    busWrite s a v = s.withCart (s.cart.control s.inputs a.toNat v) := by
  rw [busWrite_of_region (regionOf_rom h), busWriteRegion, Cart.write, if_pos h]; rfl

theorem rawRead_rom (h : a.toNat < 0x8000) : rawRead s a = s.cart.rom.read (s.cart.romOffset a.toNat) := by
  rw [rawRead_of_region (regionOf_rom h), rawReadRegion, Cart.read, if_pos h]

variable (hlo : 0xA000 ≤ a.toNat) (hhi : a.toNat ≤ 0xBFFF)
include hlo hhi

theorem regionOf_cartRam : regionOf a = .cartRam a.toNat := by
  simp (disch := omega) only [regionOf, unEcho, regionOfPlain, if_pos, if_neg]

theorem busWrite_cartRam (v : Byte) : busWrite s a v = s.withCart (s.cart.ramWrite s.inputs a.toNat v) := by
  rw [busWrite_of_region (regionOf_cartRam hlo hhi), busWriteRegion, Cart.write, if_neg (by omega)]; rfl

theorem rawRead_cartRam : rawRead s a = s.cart.read a.toNat := rawRead_of_region (regionOf_cartRam hlo hhi)

end

/-! ### The ROM windows -/

/-- An offset in a bank taken modulo the bank count lies inside the image (R655). -/
theorem bank_offset_lt {banks size off : Nat} (b : Nat) (hbanks : 0 < banks) (hoff : off < size) :
    b % banks * size + off < banks * size :=
  calc b % banks * size + off < b % banks * size + size := Nat.add_lt_add_left hoff _
    _ = (b % banks + 1) * size := (Nat.succ_mul ..).symm
    _ ≤ banks * size := Nat.mul_le_mul_right _ (Nat.mod_lt b hbanks)

theorem toNat_extractLsb'_zero (v : Byte) (n : Nat) : (v.extractLsb' 0 n).toNat = v.toNat % 2 ^ n := by
  rw [extractLsb'_zero_eq_setWidth, BitVec.toNat_setWidth]

/-- The bank of ROM window 1 after a write of `v` to 0x2100, before it is reduced (R660 to R667, R681). -/
def Mapper.bankAfter (v : Byte) : Mapper → Nat
  | .none => 1
  | .mbc1 m => m.bankHi.toNat * 32 + orOne (v.toNat % 32)
  | .mbc2 _ => orOne (v.toNat % 16)
  | .mbc3 _ => orOne (v.toNat % 128)
  | .mbc5 m => m.romHi.toNat * 256 + v.toNat

theorem window1_control (c : Cart) (i : Inputs) (v : Byte) :
    (c.control i 0x2100 v).1.window1 = c.mapper.bankAfter v % c.romBanks := by
  obtain ⟨rom, eram, romBanks, ramBanks, bat, mapper⟩ := c
  cases mapper with
  | none => rfl
  | mbc1 m =>
    show (m.bankHi.toNat * 32 + orOne (v.extractLsb' 0 5).toNat) % romBanks = _
    rw [toNat_extractLsb'_zero]; rfl
  | mbc2 m =>
    show orOne (v.extractLsb' 0 4).toNat % romBanks = _
    rw [toNat_extractLsb'_zero]; rfl
  | mbc3 m =>
    show orOne (v.extractLsb' 0 7).toNat % romBanks = _
    rw [toNat_extractLsb'_zero]; rfl
  | mbc5 m => rfl

/-- The bank of ROM window 0 before it is reduced (R662, R681). -/
def Cart.lowBank (c : Cart) : Nat :=
  match c.mapper with
  | .mbc1 m => if m.mode = true ∧ 32 < c.romBanks then m.bankHi.toNat * 32 else 0
  | _ => 0

theorem window0_eq (c : Cart) : c.window0 = c.lowBank % c.romBanks := by
  obtain ⟨rom, eram, romBanks, ramBanks, bat, mapper⟩ := c
  cases mapper with
  | mbc1 m =>
    show (if m.mode = true ∧ 32 < romBanks then m.bankHi.toNat * 32 % romBanks else 0) =
      (if m.mode = true ∧ 32 < romBanks then m.bankHi.toNat * 32 else 0) % romBanks
    split
    · rfl
    · exact (Nat.zero_mod _).symm
  | _ => exact (Nat.zero_mod _).symm

theorem romOffset_low (c : Cart) {a : Nat} (h : a < 0x4000) : c.romOffset a = c.lowBank % c.romBanks * 0x4000 + a := by
  rw [Cart.romOffset, window0_eq]; exact if_pos h

theorem romOffset_high (c : Cart) (off : Nat) : c.romOffset (0x4000 + off) = c.window1 * 0x4000 + off := by
  have hoff : 0x4000 + off - 0x4000 = off := Nat.add_sub_cancel_left ..
  exact (if_neg (Nat.not_lt.mpr (Nat.le_add_right 0x4000 off))).trans (congrArg (c.window1 * 0x4000 + ·) hoff)

/-! ### The RAM-enable latch -/

theorem Cart.read_of_absent {c : Cart} {a : Nat} (ha : 0x8000 ≤ a) (h : c.ramTarget a = .absent) : c.read a = 0xFF#8 := by
  rw [Cart.read, if_neg (Nat.not_lt.mpr ha), h]

theorem Cart.ramWrite_of_absent {c : Cart} {a : Nat} (i : Inputs) (v : Byte) (h : c.ramTarget a = .absent) :
    c.ramWrite i a v = (c, i) := by
  rw [Cart.ramWrite, h]

/-- A mapper with a RAM-enable latch and 0x00 written to it shows nothing (R658). -/
theorem ramTarget_disabled (c : Cart) (i : Inputs) (a : Nat) (h : c.mapper ≠ .none) :
    (c.control i 0 0x00#8).1.ramTarget a = .absent := by
  obtain ⟨rom, eram, romBanks, ramBanks, bat, mapper⟩ := c
  cases mapper with
  | none => exact absurd rfl h
  | _ => rfl

theorem ramEnable_other (old : Bool) {v : Byte} (hon : v ≠ 0x0A#8) (hoff : v ≠ 0x00#8) : ramEnable old v = old :=
  (if_neg hon).trans (if_neg hoff)

/-- A byte other than 0x0A and 0x00 leaves the latch alone (R657). -/
theorem control_latch_other (c : Cart) (i : Inputs) {v : Byte} (hon : v ≠ 0x0A#8) (hoff : v ≠ 0x00#8) :
    c.control i 0 v = (c, i) := by
  have hlatch := fun old => ramEnable_other old hon hoff
  obtain ⟨rom, eram, romBanks, ramBanks, bat, mapper⟩ := c
  cases mapper with
  | none => rfl
  | mbc1 m => simp [Cart.control, Mbc1.control, hlatch]
  | mbc2 m => simp [Cart.control, Mbc2.control, hlatch]
  | mbc3 m => simp [Cart.control, Mbc3.control, hlatch]
  | mbc5 m => simp [Cart.control, Mbc5.control, hlatch]

/-! ### The RAM window -/

/-- Type 3 after a write of 0x0A to 0x0000 and of `v` to 0x4000 (R657, R666). -/
def Mbc3.ramSelected (m : Mbc3) (v : Byte) : Mbc3 := { m with ramEn := true, ramSel := v.extractLsb' 0 4 }

/-- The mapper after a write of 0x0A to 0x0000 and of `v` to 0x4000. -/
def Mapper.ramSelected (v : Byte) : Mapper → Mapper
  | .none => .none
  | .mbc1 m => .mbc1 { m with ramEn := true, bankHi := v.extractLsb' 0 2 }
  | .mbc2 m => .mbc2 { m with ramEn := true }
  | .mbc3 m => .mbc3 (m.ramSelected v)
  | .mbc5 m => .mbc5 { m with ramEn := true, ramBank := v.extractLsb' 0 4 }

theorem control_ramSelected (c : Cart) (i : Inputs) (v : Byte) :
    (c.control i 0 0x0A#8).1.control (c.control i 0 0x0A#8).2 0x4000 v =
      ({ c with mapper := c.mapper.ramSelected v }, i) := by
  obtain ⟨rom, eram, romBanks, ramBanks, bat, mapper⟩ := c
  cases mapper <;> rfl

theorem busWrite_ramSelected (s : State) (v : Byte) :
    busWrite (busWrite s 0x0000#16 0x0A#8) 0x4000#16 v =
      { s with cart := { s.cart with mapper := s.cart.mapper.ramSelected v } } := by
  rw [busWrite_rom s (by decide), busWrite_rom _ (by decide)]
  exact congrArg s.withCart (control_ramSelected s.cart s.inputs v)

/-- Nothing answers at the address (R658). -/
def State.RamAbsent (t : State) (a : Word) (w : Byte) : Prop := rawRead t a = 0xFF#8 ∧ busWrite t a w = t

/-- The address shows, and stores to, cartridge RAM bank `rb` modulo the bank count (R655, R658). -/
def State.ShowsRamBank (t : State) (a : Word) (w : Byte) (rb : Nat) : Prop :=
  if t.cart.ramBanks = 0 then t.RamAbsent a w
  else
    rawRead t a = t.cart.eram.read (rb % t.cart.ramBanks * 0x2000 + (a.toNat - 0xA000)) ∧
    rb % t.cart.ramBanks * 0x2000 + (a.toNat - 0xA000) < t.cart.ramBanks * 0x2000 ∧ rawRead (busWrite t a w) a = w

section
variable {t : State} {a : Word} (hlo : 0xA000 ≤ a.toNat) (hhi : a.toNat ≤ 0xBFFF) (w : Byte)
include hlo hhi

theorem ramAbsent_of_ramTarget (h : t.cart.ramTarget a.toNat = .absent) : t.RamAbsent a w := by
  refine ⟨?_, ?_⟩
  · rw [rawRead_cartRam t hlo hhi, Cart.read_of_absent (by omega) h]
  · rw [busWrite_cartRam t hlo hhi, Cart.ramWrite_of_absent _ _ h]; rfl

theorem rawRead_of_eram {off : Nat} (h : t.cart.ramTarget a.toNat = .eram off) : rawRead t a = t.cart.eram.read off := by
  rw [rawRead_cartRam t hlo hhi, Cart.read, if_neg (by omega), h]

theorem rawRead_busWrite_of_eram (ht : t.Canonical) {off : Nat} (h : t.cart.ramTarget a.toNat = .eram off) :
    rawRead (busWrite t a w) a = w := by
  have hwrite : t.cart.ramWrite t.inputs a.toNat w = ({ t.cart with eram := t.cart.eram.write off w }, t.inputs) := by
    rw [Cart.ramWrite, h]
  rw [busWrite_cartRam t hlo hhi, hwrite]
  refine Eq.trans (rawRead_of_eram hlo hhi (off := off) ?_) ?_
  · exact h
  · exact Store.read_write_same ht.eram off w

theorem showsRamBank_of_ramTarget (ht : t.Canonical) {rb : Nat}
    (h : t.cart.ramTarget a.toNat = t.cart.eramTarget rb a.toNat) :
    t.ShowsRamBank a w rb := by
  unfold State.ShowsRamBank
  split
  · rename_i hnone
    exact ramAbsent_of_ramTarget hlo hhi w (h.trans (if_pos hnone))
  · rename_i hsome
    have htarget : t.cart.ramTarget a.toNat = .eram (rb % t.cart.ramBanks * 0x2000 + (a.toNat - 0xA000)) :=
      h.trans (if_neg hsome)
    exact ⟨rawRead_of_eram hlo hhi htarget, bank_offset_lt rb (Nat.pos_of_ne_zero hsome) (by omega),
      rawRead_busWrite_of_eram hlo hhi w ht htarget⟩

/-! #### Type 2 -/

omit hlo hhi in
theorem half_byte_read (x : BitVec 4) : 0xF#4 ++ x = 0xF0#8 ||| x.setWidth 8 := by
  revert x; decide

omit hlo hhi in
theorem half_byte_written (w : Byte) : 0xF#4 ++ w.extractLsb' 0 4 = 0xF0#8 ||| w := by
  rw [half_byte_read, extractLsb'_setWidth_low_nibble]
  revert w; decide

section
variable {m : Mbc2} (hen : m.ramEn = true) (hm : t.cart.mapper = .mbc2 m)
include hen hm

omit hlo hhi in
theorem ramTarget_mbc2 (n : Nat) : t.cart.ramTarget n = .mbc2 (n % 0x200) := by
  rw [Cart.ramTarget, hm]
  exact if_pos hen

theorem rawRead_mbc2 : rawRead t a = 0xF#4 ++ m.ram.read (a.toNat % 0x200) := by
  rw [rawRead_cartRam t hlo hhi, Cart.read, if_neg (by omega), ramTarget_mbc2 hen hm, hm]

theorem rawRead_busWrite_mbc2 (ht : t.Canonical) : rawRead (busWrite t a w) a = 0xF0#8 ||| w := by
  have hwrite : t.cart.ramWrite t.inputs a.toNat w =
      ({ t.cart with mapper := .mbc2 { m with ram := m.ram.write (a.toNat % 0x200) (w.extractLsb' 0 4) } }, t.inputs) := by
    rw [Cart.ramWrite, ramTarget_mbc2 hen hm, hm]
  have hwf : Store.wf m.ram := by simpa only [Mapper.canonical, hm, Mapper.mbc2Ram] using ht.mbc2
  rw [busWrite_cartRam t hlo hhi, hwrite, ← half_byte_written]
  refine Eq.trans (rawRead_mbc2 hlo hhi (m := { m with ram := m.ram.write (a.toNat % 0x200) (w.extractLsb' 0 4) }) hen rfl) ?_
  exact congrArg (0xF#4 ++ ·) (Store.read_write_same hwf _ _)

end

/-! #### The clock of type 3 -/

omit hlo hhi in
/-- A write of a clock register leaves the latched copy alone (R672). -/
theorem Rtc.write_latched (r : Rtc) (i : Inputs) (reg : Nat) (v : Byte) : (r.write i reg v).1.latched = r.latched := by
  unfold Rtc.write
  split
  · dsimp only
    split <;> rfl
  · rfl

omit hlo hhi in
theorem ramTarget_mbc3 {m : Mbc3} (hm : t.cart.mapper = .mbc3 m) (hen : m.ramEn = true) (n : Nat) :
    t.cart.ramTarget n =
      if m.ramSel.toNat < 8 then t.cart.eramTarget m.ramSel.toNat n
      else if m.ramSel.toNat ≤ 0xC ∧ m.rtc.isSome = true then .rtc m.ramSel.toNat
      else .absent := by
  rw [Cart.ramTarget, hm]
  exact if_pos hen

section
variable {m : Mbc3} {r : Rtc} (hen : m.ramEn = true) (hr : m.rtc = some r) (h8 : ¬ m.ramSel.toNat < 8)
  (h12 : m.ramSel.toNat ≤ 12) (hm : t.cart.mapper = .mbc3 m)
include hen hr h8 h12 hm

omit hlo hhi in
theorem ramTarget_rtc (n : Nat) : t.cart.ramTarget n = .rtc m.ramSel.toNat := by
  rw [ramTarget_mbc3 hm hen, if_neg h8, if_pos ⟨h12, by rw [hr]; rfl⟩]

theorem rawRead_rtc : rawRead t a = r.latched.read m.ramSel.toNat := by
  rw [rawRead_cartRam t hlo hhi, Cart.read, if_neg (by omega), ramTarget_rtc hen hr h8 h12 hm, hm]
  dsimp only
  rw [hr]

theorem rawRead_busWrite_rtc : rawRead (busWrite t a w) a = rawRead t a := by
  have hwrite : t.cart.ramWrite t.inputs a.toNat w =
      ({ t.cart with mapper := .mbc3 { m with rtc := some (r.write t.inputs m.ramSel.toNat w).1 } },
       (r.write t.inputs m.ramSel.toNat w).2) := by
    rw [Cart.ramWrite, ramTarget_rtc hen hr h8 h12 hm, hm]
    dsimp only
    rw [hr]
  rw [busWrite_cartRam t hlo hhi, hwrite, rawRead_rtc hlo hhi hen hr h8 h12 hm,
    ← Rtc.write_latched r t.inputs m.ramSel.toNat w]
  exact rawRead_rtc hlo hhi (m := { m with rtc := some (r.write t.inputs m.ramSel.toNat w).1 }) hen rfl h8 h12 rfl

end

end

/-- The control register as a number: bits 0, 6 and 7 (R670). -/
theorem RtcRegs.ctrl_eq (r : RtcRegs) :
    r.ctrl = BitVec.ofNat 8
      ((if r.carry then 128 else 0) + (if r.halt then 64 else 0) + (if r.dayHi then 1 else 0)) := by
  unfold RtcRegs.ctrl
  generalize r.carry = c, r.halt = h, r.dayHi = d
  revert c h d; decide

/-- A clock register by its selector, with the control register as a number (R670, R671). -/
theorem RtcRegs.read_eq (r : RtcRegs) (reg : Nat) :
    r.read reg =
      match reg with
      | 8 => r.sec.setWidth 8
      | 9 => r.min.setWidth 8
      | 10 => r.hour.setWidth 8
      | 11 => r.dayLo
      | _ => BitVec.ofNat 8
          ((if r.carry then 128 else 0) + (if r.halt then 64 else 0) + (if r.dayHi then 1 else 0)) := by
  rw [← RtcRegs.ctrl_eq]
  rfl

/-- Settles O54: each write at the mapper, and each window through what it reaches. -/
theorem cartridgeWindows : Obligations.CartridgeWindows := by
  unfold Obligations.CartridgeWindows
  refine ⟨fun s v off hoff hbanks => ?window1, fun s off hoff hbanks => ?window0, fun s a v hmapper hlo hhi => ?latch,
    fun s a v w hs hlo hhi => ?ram⟩
  case window1 =>
    have haddr : (BitVec.ofNat 16 (0x4000 + off)).toNat = 0x4000 + off := Nat.mod_eq_of_lt (by omega)
    have hcart : (busWrite s 0x2100#16 v).cart = (s.cart.control s.inputs 0x2100 v).1 :=
      congrArg State.cart (busWrite_rom s (by decide) v)
    refine ⟨?_, bank_offset_lt _ hbanks hoff⟩
    rw [rawRead_rom _ (by omega), haddr, romOffset_high, hcart, control_rom, window1_control]
    rfl
  case window0 =>
    have haddr : (BitVec.ofNat 16 off).toNat = off := Nat.mod_eq_of_lt (by omega)
    refine ⟨?_, bank_offset_lt _ hbanks hoff⟩
    rw [rawRead_rom _ (by omega), haddr, romOffset_low _ hoff]
    rfl
  case latch =>
    intro t
    have ht : t = s.withCart (s.cart.control s.inputs 0 0x00#8) := busWrite_rom s (by decide) 0x00#8
    have htarget : t.cart.ramTarget a.toNat = .absent := by rw [ht]; exact ramTarget_disabled _ _ _ hmapper
    obtain ⟨hread, hwrite⟩ := ramAbsent_of_ramTarget hlo hhi v htarget
    refine ⟨hread, hwrite, fun hon hoff => ?_⟩
    rw [busWrite_rom s (by decide)]
    exact congrArg s.withCart (control_latch_other s.cart s.inputs hon hoff)
  case ram =>
    have ht := busWrite_canonical 0x4000#16 v (busWrite_canonical 0x0000#16 0x0A#8 hs)
    rw [busWrite_ramSelected] at ht ⊢
    intro t u absent ram sel
    have hsel : (v.extractLsb' 0 4).toNat = sel := toNat_extractLsb'_zero v 4
    have hmapper : t.cart.mapper = s.cart.mapper.ramSelected v := rfl
    have bank {rb : Nat} (h : t.cart.ramTarget a.toNat = t.cart.eramTarget rb a.toNat) : ram rb :=
      showsRamBank_of_ramTarget hlo hhi w ht h
    split
    case h_1 hm =>
      rw [hm] at hmapper
      exact bank (by rw [Cart.ramTarget, hmapper]; rfl)
    case h_2 m hm =>
      rw [hm] at hmapper
      have hhigh : (v.extractLsb' 0 2).toNat = v.toNat % 4 := toNat_extractLsb'_zero v 2
      exact bank (by rw [Cart.ramTarget, hmapper, ← hhigh]; rfl)
    case h_3 m hm =>
      rw [hm] at hmapper
      exact ⟨(rawRead_mbc2 hlo hhi rfl hmapper).trans (half_byte_read _), rawRead_busWrite_mbc2 hlo hhi w rfl hmapper ht⟩
    case h_4 m hm =>
      rw [hm] at hmapper
      have htarget : t.cart.ramTarget a.toNat =
          if sel < 8 then t.cart.eramTarget sel a.toNat
          else if sel ≤ 12 ∧ m.rtc.isSome = true then .rtc sel else .absent := by
        rw [ramTarget_mbc3 (m := m.ramSelected v) hmapper rfl, ← hsel]
        rfl
      split
      · rename_i hbank
        exact bank (htarget.trans (if_pos hbank))
      · rename_i hbank
        rw [if_neg hbank] at htarget
        split
        · rename_i hnone
          refine ramAbsent_of_ramTarget hlo hhi w (htarget.trans (if_neg fun h => ?_))
          rw [hnone] at h
          exact Bool.false_ne_true h.2
        · rename_i r hr
          intro ctrl
          split
          · rename_i hclock
            have h8 : ¬ (m.ramSelected v).ramSel.toNat < 8 := fun h => hbank (hsel ▸ h)
            have h12 : (m.ramSelected v).ramSel.toNat ≤ 12 := hsel.trans_le hclock
            refine ⟨?_, rawRead_busWrite_rtc (m := m.ramSelected v) hlo hhi w rfl hr h8 h12 hmapper⟩
            have hread : rawRead t a = r.latched.read sel :=
              hsel ▸ rawRead_rtc (m := m.ramSelected v) hlo hhi rfl hr h8 h12 hmapper
            exact hread.trans (r.latched.read_eq sel)
          · rename_i hclock
            exact ramAbsent_of_ramTarget hlo hhi w (htarget.trans (if_neg fun h => hclock h.1))
    case h_5 m hm =>
      rw [hm] at hmapper
      exact bank (by rw [Cart.ramTarget, hmapper, ← hsel]; rfl)

end Sys2Proof.Machine
end
